-- ==== Sys2Proof/Word.lean ====
section
/-! DEFINITION. The widths of spec/00_scope.md R9: bytes, data words, the bus address, and the host's
32-bit command word (spec/30_encoding.md R77). -/

namespace Sys2Proof

/-- A byte of the wire, of TXF, RXD, CRCOUT or the queue (00 R9 "byte width"). -/
abbrev Byte := BitVec 8

/-- A data or parameter word, and a wire opcode (00 R9 "data word width", "opcode width"). -/
abbrev Word := BitVec 16

/-- A value of the command register CMD (30 R77). -/
abbrev CmdWord := BitVec 32

/-- A bus address (00 R9 "bus address width"). -/
abbrev BusAddr := BitVec 7

end Sys2Proof
end

