-- ==== Sys2Proof/Config.lean ====
section
/-! DEFINITION. What an instance of the codec fixes (00_scope.md R10, 10_state.md R40), the transport's
answer types (00 R13, 20_memory.md R58), and the free values, which have no body. -/

namespace Sys2Proof

/-- SETTLE_MS(cmd) of 00 R10, one delay per kind of command R10 names. The codec never reads it (70 R208). -/
structure SettleMs where
  start : Nat
  stop : Nat
  reset : Nat
  calibration : Nat
deriving DecidableEq, Repr

/-- The OPEN parameters of 00 R10, fixed for the life of an instance (10 R40). -/
structure Config where
  /-- MAX_TX_WORDS: most parameter words in one frame, the number of TXW registers. -/
  maxTxWords : Nat
  /-- MAX_RX_DATA: most data bytes of one decode, the number of RXD registers. -/
  maxRxData : Nat
  /-- ADDR_REDUCED: the codec never reads it. -/
  addrReduced : BusAddr
  /-- ADDR_SHARED: the codec never reads it. -/
  addrShared : BusAddr
  settleMs : SettleMs
deriving DecidableEq, Repr

/-- The constraints 00 R10 puts on the parameters. -/
abbrev Config.Valid (c : Config) : Prop :=
  1 ≤ c.maxTxWords ∧ c.maxTxWords ≤ 84 ∧ 18 ≤ c.maxRxData ∧ c.maxRxData ≤ 255

/-- The number of TXF registers, 2 + 3·MAX_TX_WORDS (10 R20). -/
def Config.txfSize (c : Config) : Nat := 2 + 3 * c.maxTxWords

/-- The instance `State.reset` stands for: MAX_TX_WORDS = 8 and MAX_RX_DATA = 32, the values of spec/95
(head of the file). DESIGN CHOICE, log entry 9. -/
def Config.sample : Config where
  maxTxWords := 8
  maxRxData := 32
  addrReduced := 0
  addrShared := 0
  settleMs := { start := 0, stop := 0, reset := 0, calibration := 0 }

/-- The errors a transport call may report (20 R58). -/
inductive BusError where
  | protocol
  | timeout
deriving DecidableEq, Repr, Inhabited

/-- What `transport.write` answers (00 R13): OK, Protocol or Timeout. -/
inductive WriteAnswer where
  | ok
  | error (e : BusError)
deriving DecidableEq, Repr, Inhabited

/-- What `transport.read` answers (00 R13, 20 R58): an error, or a byte list of any length. -/
inductive ReadAnswer where
  | error (e : BusError)
  | bytes (l : List Byte)
deriving DecidableEq, Repr, Inhabited

/-- FREE VALUE (log entry 2): the answer to a TransportWrite for which no answer stands in `writeAnswers`. -/
opaque Config.freeWriteAnswer : Nat → WriteAnswer

/-- FREE VALUE (log entry 2): the answer to a TransportRead for which no answer stands in `readAnswers`. -/
opaque Config.freeReadAnswer : Nat → ReadAnswer

/-- FREE VALUE (log entry 8): a byte of TXF or RXD that the spec leaves unspecified (10 R27, R29). -/
opaque Config.freeByte : Nat → Byte

/-- The two reads whose lengths 00 R16 lists per canonical variant index. -/
inductive ReadSet where
  | measurement
  | rawValues
deriving DecidableEq, Repr

/-- 00 R16: the data-byte count N the host passes for a read, by canonical variant index; `none` is
"unsupported". It binds the host, not the codec. -/
def readLength : ReadSet → Fin 5 → Option Nat
  | .measurement, 0 => some 18
  | .measurement, 1 => some 14
  | .measurement, 2 => some 16
  | .measurement, 3 => some 18
  | .measurement, 4 => some 18
  | .rawValues, 0 => none
  | .rawValues, 1 => some 4
  | .rawValues, 2 => some 8
  | .rawValues, 3 => some 10
  | .rawValues, 4 => some 8

/-- 00 R16, the concentration read: (length in bytes, offset into the decoded data bytes), for the
reduced-set variant and for the others. -/
def concentrationRead (reducedSet : Bool) : Nat × Nat :=
  if reducedSet then (18, 8) else (10, 0)

end Sys2Proof
end

