-- ==== Sys2Proof/Syntax.lean ====
section
/-! DEFINITION. The codec's five commands (spec/opcode_table.json, 30_encoding.md R78), the host's register
accesses (10_state.md R20, R36), and the assembler's lines and tokens (30 R85, R86). -/

namespace Sys2Proof

/-- One constructor per row of spec/opcode_table.json; the operands are those of 30 R79. -/
inductive Instr where
  /-- `crc8 b0, b1` (40 R107). -/
  | crc8 (b0 b1 : Byte)
  /-- `check b0, b1, c`: `c` is the received CRC byte (40 R108). -/
  | check (b0 b1 c : Byte)
  /-- `write n, op`: word count and wire opcode (41 R121). -/
  | write (n : BitVec 8) (op : Word)
  /-- `readf N`: data byte count (42 R144). -/
  | readf (n : BitVec 8)
  /-- `readz N`: maximum data byte count (42 R145). -/
  | readz (n : BitVec 8)
deriving DecidableEq, Repr

/-- The two termination modes of the decoder (42 R140). -/
inductive ReadMode where
  | fixed
  | zero
deriving DecidableEq, Repr

/-- The host-visible registers, by name and index (10 R20). -/
inductive Reg where
  | cmd
  | busaddr
  | txw (i : Nat)
  | status
  | crcout
  | txlen
  | txf (j : Nat)
  | rxlen
  | rxd (j : Nat)
deriving DecidableEq, Repr

/-- What the host can do to the codec between commands: write a register (CMD among them), read one
(10 R36, 60 R182 H-8), or assert reset (H-9). -/
inductive HostAccess where
  | write (r : Reg) (v : BitVec 32)
  | read (r : Reg)
  | reset
deriving DecidableEq, Repr

/-- A line of the assembler (30 R85): the five commands, the pseudo-instructions of R86, and the host's
register actions. The operands are numbers as written, before any check that they fit. The last two forms stand in
the programs of 95 section 6 only (DESIGN CHOICE, log entry 11). -/
inductive Line where
  | crc8 (b0 b1 : Nat)
  | check (b0 b1 c : Nat)
  | write (n op : Nat)
  | readf (n : Nat)
  | readz (n : Nat)
  | send (op : Nat)
  | writew (op : Nat) (ws : List Nat)
  | writes (op : Nat) (ss : List Int)
  | verify (b0 b1 c : Nat)
  | readstr (n : Nat)
  | setBusaddr (v : Nat)
  | setTxw (i v : Nat)
  | setCmd (v : Nat)
  | readReg (r : Reg)
  /-- `read RXD[0] .. RXD[3]` (95 P3): the reads of the elements from `lo` to `hi`. -/
  | readRange (lo hi : Reg)
  /-- A line of blanks or of a comment only (95 P2, P3): it stands for no access. -/
  | blank
deriving DecidableEq, Repr

/-- The tokens of an assembler line (30 R85; the character level is log entry 11). -/
inductive Token where
  | name (cs : List Char)
  | num (n : Nat)
  | comma
  | arrow
  | minus
  | dots
  | openBrace
  | closeBrace
  | openBracket
  | closeBracket
deriving DecidableEq, Repr

end Sys2Proof
end

