-- ==== Sys2Proof/WellFormed.lean ====
section
/-! DEFINITION. Which terms are well formed. An `Instr` carries its operands at the width of their field, so
every `Instr` is (30_encoding.md R81); the checks are those the assembler makes on a line (R85). -/

namespace Sys2Proof

/-- 30 R81: a command word is a command with legal fields or reserved. The operand types of `Instr` admit
exactly the values of R79, so no term of it is ill formed. -/
def Instr.wellFormed : Instr → Bool
  | .crc8 _ _ => true
  | .check _ _ _ => true
  | .write _ _ => true
  | .readf _ => true
  | .readz _ => true

/-- An operand in u8 (30 R85). -/
def fitsU8 (v : Nat) : Bool := decide (v < 2 ^ 8)

/-- An operand in u16 (30 R85). -/
def fitsU16 (v : Nat) : Bool := decide (v < 2 ^ 16)

/-- An operand in u32: a raw CMD value (30 R85). -/
def fitsU32 (v : Nat) : Bool := decide (v < 2 ^ 32)

/-- An operand in s16 (00 R11, 30 R75). -/
def fitsS16 (v : Int) : Bool := decide (-32768 ≤ v ∧ v ≤ 32767)

/-- The two ends of a range of reads: elements of one array, the lower index first (95 P3; DESIGN CHOICE, log
entry 11). -/
def Reg.isRange : Reg → Reg → Bool
  | .txw i, .txw j => decide (i ≤ j)
  | .txf i, .txf j => decide (i ≤ j)
  | .rxd i, .rxd j => decide (i ≤ j)
  | _, _ => false

/-- 30 R85: "The assembler rejects a line whose operand does not fit its field." The register actions'
widths are those of the registers, but for BUSADDR, to which a wider value may be written (10 R22). -/
def Line.wellFormed : Line → Bool
  | .crc8 b0 b1 => fitsU8 b0 && fitsU8 b1
  | .check b0 b1 c => fitsU8 b0 && fitsU8 b1 && fitsU8 c
  | .write n op => fitsU8 n && fitsU16 op
  | .readf n => fitsU8 n
  | .readz n => fitsU8 n
  | .send op => fitsU16 op
  | .writew op ws => fitsU16 op && fitsU8 ws.length && ws.all fitsU16
  | .writes op ss => fitsU16 op && fitsU8 ss.length && ss.all fitsS16
  | .verify b0 b1 c => fitsU8 b0 && fitsU8 b1 && fitsU8 c
  | .readstr n => fitsU8 n
  | .setBusaddr v => fitsU32 v
  | .setTxw _ v => fitsU16 v
  | .setCmd v => fitsU32 v
  | .readReg _ => true
  | .readRange lo hi => lo.isRange hi
  | .blank => true

end Sys2Proof
end

