-- ==== Sys2Proof/Decode.lean ====
section
/-! DEFINITION. The command word: its fields (30_encoding.md R77), the decoder (R80, R83), which is total and
rejects by name, the encoder (R79, R85), and the byte split of a word (R74). -/

namespace Sys2Proof

/-- OP = CMD[31:28] (30 R77). -/
def cmdOp (c : CmdWord) : BitVec 4 := c.extractLsb' 28 4

/-- RSV = CMD[27:24] (30 R77). -/
def cmdRsv (c : CmdWord) : BitVec 4 := c.extractLsb' 24 4

/-- CNT = CMD[23:16] (30 R77). -/
def cmdCnt (c : CmdWord) : BitVec 8 := c.extractLsb' 16 8

/-- DATA = CMD[15:0] (30 R77). -/
def cmdData (c : CmdWord) : Word := c.extractLsb' 0 16

/-- `w[15:8]`, the byte that travels first (30 R74, 20 R51). -/
def hiByte (w : Word) : Byte := w.extractLsb' 8 8

/-- `w[7:0]`, the byte that travels second (30 R74, 20 R51). -/
def loByte (w : Word) : Byte := w.extractLsb' 0 8

/-- Why a command word is reserved (30 R80), one name per reason. -/
inductive DecodeReject where
  /-- OP is 0x0 or 0x6 .. 0xF. -/
  | reservedOp
  /-- RSV is not 0. -/
  | reservedRsv
  /-- A must-be-0 field of R79 is not 0. -/
  | reservedField
deriving DecidableEq, Repr

/-- 30 R83: the command of a CMD value, or why it is reserved. -/
def decode (c : CmdWord) : Except DecodeReject Instr :=
  if cmdRsv c ≠ 0 then .error .reservedRsv
  else if cmdOp c = 0x1 then
    if cmdCnt c ≠ 0 then .error .reservedField
    else .ok (.crc8 (hiByte (cmdData c)) (loByte (cmdData c)))
  else if cmdOp c = 0x2 then
    .ok (.check (hiByte (cmdData c)) (loByte (cmdData c)) (cmdCnt c))
  else if cmdOp c = 0x3 then
    .ok (.write (cmdCnt c) (cmdData c))
  else if cmdOp c = 0x4 then
    if cmdData c ≠ 0 then .error .reservedField else .ok (.readf (cmdCnt c))
  else if cmdOp c = 0x5 then
    if cmdData c ≠ 0 then .error .reservedField else .ok (.readz (cmdCnt c))
  else .error .reservedOp

/-- The CMD word of a command, its fields from bit 31 down as 30 R77 and R79 lay them out. -/
def encode : Instr → CmdWord
  | .crc8 b0 b1 => 0x1#4 ++ 0x0#4 ++ 0x00#8 ++ b0 ++ b1
  | .check b0 b1 c => 0x2#4 ++ 0x0#4 ++ c ++ b0 ++ b1
  | .write n op => 0x3#4 ++ 0x0#4 ++ n ++ op
  | .readf n => 0x4#4 ++ 0x0#4 ++ n ++ 0x0000#16
  | .readz n => 0x5#4 ++ 0x0#4 ++ n ++ 0x0000#16

/-- The CMD word whose bits spec/opcode_table.json numbers as `w`: the bits above `nbits` are 0, and a
command is one 32-bit word (30 R82). Log entry 13. -/
def tableWord (nbits w : Nat) : CmdWord := BitVec.ofNat 32 (w % 2 ^ nbits)

/-- What the decoder reads from the bits `w` of an instruction, numbered as the opcode table numbers them. -/
def decodeTableWord (nbits w : Nat) : Option Instr := (decode (tableWord nbits w)).toOption

end Sys2Proof
end

