-- ==== Sys2Proof/Machine/State.lean ====
section
/-! DEFINITION. The codec's state (10_state.md R20 to R40), with the host's coming accesses and the transport
as plain data beside it, the stops, and the state after reset (R39, 70_reset_and_hazards.md R200). -/

namespace Sys2Proof.Machine

/-- The error kinds of 60 R170 (the source's §7); each names a STATUS code. -/
inductive Kind where
  | ok
  | dataLength
  | unknownCommand
  | accessRight
  | invalidParameter
  | outOfRange
  | commandNotAllowedInState
  | timeout
  | protocol
  | firmwareTooOld
deriving DecidableEq, Repr

/-- The stops that 10 R37 states of a model (10_state.md:159-161): "a host read of one faults in the model", and "a
WRITE whose word count n reaches an unwritten TXW[i] (i < n) faults in the model". -/
inductive Fault where
  /-- Raised by WRITE when its word count reaches a TXW[k] the host has not written since reset, and by a
  host read of such a TXW[k] (10 R37; 41 R121 "the model faults here"; decision D32; 93 U4; 95 W-15). Safe: the model stops where the hardware goes on. -/
  | unwrittenTxw (k : Nat)
  /-- Raised by a host read of TXF[j] with j ≥ TXLEN (10 R27, R37; decision D32; 93 U5). Safe: the model stops where the hardware
  goes on. -/
  | unspecifiedTxf (j : Nat)
  /-- Raised by a host read of RXD[j] with j ≥ RXLEN (10 R29, R37; 42 R148; D16, D32; 93 U6; 95 P6). Safe: the model stops where the hardware
  goes on. -/
  | unspecifiedRxd (j : Nat)
deriving DecidableEq, Repr

/-- The host accesses that 10 R21 and R36 make a model refuse. -/
inductive Refusal where
  /-- An instruction with no meaning yet, named as the opcode table names it. No arm of exec raises it. Safe. -/
  | notModelled (mnemonic : String)
  /-- Raised by a host read of CMD (10 R21, decision D30). Safe: no claim holds past it. -/
  | readOfCmd
  /-- Raised by a host access to an index outside TXW, TXF or RXD, which names no register (10 R36,
  decision D30). Safe: no claim holds past it. -/
  | noSuchRegister (r : Reg)
deriving DecidableEq, Repr

/-- One register of the array TXW: its value, and whether the host has written it since reset (10 R37). -/
structure TxwReg where
  value : Word
  written : Bool
deriving DecidableEq, Repr, Inhabited

/-- One call the codec makes to the transport (00 R13), with its arguments. -/
inductive BusCall where
  /-- TransportWrite(a, bytes). -/
  | write (addr : BusAddr) (bytes : List Byte)
  /-- TransportRead(a, count). -/
  | read (addr : BusAddr) (count : Nat)
deriving DecidableEq, Repr

/-- The state. CMD has no field: it holds no readable value (10 R39) and the codec keeps no copy of the
command word (60 R172). -/
@[ext]
structure State where
  /-- The instance's parameters (00 R10, 10 R40): changed by neither reset nor a command. -/
  cfg : Config
  /-- BUSADDR (10 R22). -/
  busaddr : BusAddr
  /-- TXW[0 .. MAX_TX_WORDS − 1] (10 R23). -/
  txw : List TxwReg
  /-- STATUS (10 R24). -/
  status : BitVec 4
  /-- CRCOUT (10 R25). -/
  crcout : Byte
  /-- TXLEN (10 R26). -/
  txlen : BitVec 8
  /-- TXF[0 .. 1 + 3·MAX_TX_WORDS] (10 R27). -/
  txf : List Byte
  /-- RXLEN (10 R28). -/
  rxlen : BitVec 8
  /-- RXD[0 .. MAX_RX_DATA − 1] (10 R29). -/
  rxd : List Byte
  /-- The CRC engine's working register, hidden (10 R34). -/
  crc : Byte
  /-- The queue of received bytes not yet consumed, hidden (10 R35). -/
  rxq : List Byte
  /-- The model's own: the host's coming accesses, the next one first (log entry 1). -/
  hostq : List HostAccess
  /-- The model's own: the transport's answers to the coming TransportWrites (log entry 2). -/
  writeAnswers : List WriteAnswer
  /-- The model's own: the transport's answers to the coming TransportReads (log entry 2). -/
  readAnswers : List ReadAnswer
  /-- The model's own: the transport calls made so far, oldest first (20 R62; log entry 3). -/
  calls : List BusCall
  /-- The model's own: what the last host read returned (log entry 4). -/
  readData : BitVec 32
  /-- The model's own: how many free values have been drawn (log entry 5). -/
  free : Nat
deriving DecidableEq, Repr

/-- 10 R39 and 70 R200: an instance with parameters `c` right after reset. The contents of TXW, TXF, RXD
and `crc`, which R39 leaves unspecified, are 0 (DESIGN CHOICE, log entry 6); every TXW is unwritten. -/
def State.resetOf (c : Config) : State where
  cfg := c
  busaddr := 0x00
  txw := List.replicate c.maxTxWords { value := 0x0000, written := false }
  status := 0
  crcout := 0x00
  txlen := 0
  txf := List.replicate c.txfSize 0x00
  rxlen := 0
  rxd := List.replicate c.maxRxData 0x00
  crc := 0x00
  rxq := []
  hostq := []
  writeAnswers := []
  readAnswers := []
  calls := []
  readData := 0
  free := 0

/-- The machine right after reset: the sample instance (log entry 9), with no host access waiting (70 R202). -/
def State.reset : State := State.resetOf Config.sample

end Sys2Proof.Machine
end

