-- ==== Sys2Proof/Machine/Flags.lean ====
section
/-! DEFINITION. The codec has no flags and no condition codes besides STATUS (10_state.md R32): this file
holds the codes of STATUS (60_exceptions.md R170) and which kind a transport's answer is (R181). -/

namespace Sys2Proof.Machine

/-- 60 R170: the numeric code of each kind. -/
def statusCode : Kind → BitVec 4
  | .ok => 0
  | .dataLength => 1
  | .unknownCommand => 2
  | .accessRight => 3
  | .invalidParameter => 4
  | .outOfRange => 5
  | .commandNotAllowedInState => 6
  | .timeout => 7
  | .protocol => 8
  | .firmwareTooOld => 9

/-- 60 R181: a transport error is reported unchanged. -/
def busErrorKind : BusError → Kind
  | .protocol => .protocol
  | .timeout => .timeout

/-- 41 R121 "STATUS <- code(s)": the kind of a TransportWrite's answer. -/
def writeAnswerKind : WriteAnswer → Kind
  | .ok => .ok
  | .error e => busErrorKind e

end Sys2Proof.Machine
end

