-- ==== Sys2Proof/Machine/Operands.lean ====
section
/-! DEFINITION. The operand forms: joining bytes and reading signed words (30_encoding.md R74, R75), the words
a WRITE takes from TXW (41_frame_encode.md R121, 10_state.md R37), and the data words of a response (20_memory.md R53). -/

namespace Sys2Proof.Machine

/-- 30 R74: `w = zext_16(hi) << 8 | zext_16(lo)`. -/
def joinBytes (hi lo : Byte) : Word := (hi.setWidth 16 <<< 8) ||| lo.setWidth 16

/-- 30 R75: the 16-bit two's-complement pattern `s mod 2^16` of a signed parameter. -/
def signedPattern (v : Int) : Word := BitVec.ofInt 16 v

/-- TXW[k] has been written by the host since reset (10 R37); an index outside the array has not. -/
def txwWritten (s : State) (k : Nat) : Bool := (s.txw[k]?.getD default).written

/-- The value TXW[k] holds. -/
def txwValue (s : State) (k : Nat) : Word := (s.txw[k]?.getD default).value

/-- The lowest TXW index below `n` that the host has not written (10 R37), if there is one. -/
def firstUnwritten (s : State) (n : Nat) : Option Nat :=
  (List.range n).find? fun k => !txwWritten s k

/-- The words TXW[0] .. TXW[n−1], in frame order (10 R23). -/
def txWords (s : State) (n : Nat) : List Word := (List.range n).map (txwValue s)

/-- 20 R53: data word k of the response in RXD is `RXD[2k] << 8 | RXD[2k+1]`. -/
def dataWord (s : State) (k : Nat) : Word :=
  joinBytes (s.rxd[2 * k]?.getD 0) (s.rxd[2 * k + 1]?.getD 0)

/-- 20 R53: a signed field is `sext_16` of its data word. -/
def signedDataWord (s : State) (k : Nat) : Int := (dataWord s k).toInt

end Sys2Proof.Machine
end

