-- ==== Sys2Proof/Machine/Ops.lean ====
section
/-! DEFINITION. The shared operations: ending a command (00_scope.md R13, 60_exceptions.md R176), the transport
calls (20_memory.md R57, R58), the drain (42_frame_decode.md R147), and writing the result arrays. The codec has no
traps and no return from one (60 R176, R178): `raise` is what a failure does, and it goes nowhere. -/

namespace Sys2Proof.Machine

/-- `raise E` (00 R13): the command ends with STATUS <- code(E), and nothing else. -/
def raise (k : Kind) (s : State) : State := { s with status := statusCode k }

/-- `finish` (00 R13): the command ends with STATUS <- code(OK). -/
def finish (s : State) : State := raise .ok s

/-- `n` free bytes, the first of them number `k`. -/
def freeBytes (k n : Nat) : List Byte := (List.range n).map fun j => Config.freeByte (k + j)

/-- 10 R27: every TXF[j] holds an unspecified value, a free one. -/
def unspecifyTxf (s : State) : State :=
  { s with txf := freeBytes s.free s.txf.length, free := s.free + s.txf.length }

/-- 10 R29, 42 R148: every RXD[j] holds an unspecified value, a free one. -/
def unspecifyRxd (s : State) : State :=
  { s with rxd := freeBytes s.free s.rxd.length, free := s.free + s.rxd.length }

/-- The array after `new` is written to its elements 0 .. |new| − 1; the others stay (10 R27, R29). -/
def overlay (new old : List Byte) : List Byte := new ++ old.drop new.length

/-- The answer the next TransportWrite draws (20 R58). -/
def writeAnswer (s : State) : WriteAnswer := s.writeAnswers.head?.getD (Config.freeWriteAnswer s.free)

/-- The answer the next TransportRead draws (20 R58). -/
def readAnswer (s : State) : ReadAnswer := s.readAnswers.head?.getD (Config.freeReadAnswer s.free)

/-- The call TransportWrite(BUSADDR, bytes) has been made, and its answer drawn (41 R121). -/
def transportWrite (bytes : List Byte) (s : State) : State :=
  { s with
    calls := s.calls ++ [.write s.busaddr bytes]
    writeAnswers := s.writeAnswers.tail
    free := s.free + 1 }

/-- The call TransportRead(BUSADDR, count) has been made, and its answer drawn (42 R142). -/
def transportRead (count : Nat) (s : State) : State :=
  { s with
    calls := s.calls ++ [.read s.busaddr count]
    readAnswers := s.readAnswers.tail
    free := s.free + 1 }

/-- `rxq <- r` (42 R142): the queue holds the bytes the bus returned. -/
def loadRxq (l : List Byte) (s : State) : State := { s with rxq := l }

/-- `rxq <- []` (42 R147): what is left of the response is discarded. -/
def drain (s : State) : State := { s with rxq := [] }

end Sys2Proof.Machine
end

