-- ==== Sys2Proof/Machine/Crc.lean ====
section
/-! DEFINITION. The CRC-8 of a 2-byte group (40_crc.md R100) and the commands CRC8 and CHECK (R107, R108). -/

namespace Sys2Proof.Machine

/-- The polynomial, without its x^8 term (00 R9, 40 R101). -/
def crcPoly : Byte := 0x31

/-- The initial value of every group (00 R9, 40 R100). -/
def crcInit : Byte := 0xFF

/-- One bit-step of 40 R100: shift left, and exclusive-or the polynomial if bit 7 was 1. -/
def crcShift (c : Byte) : Byte := if c.getLsbD 7 then (c <<< 1) ^^^ crcPoly else c <<< 1

/-- `k` bit-steps. -/
def crcShifts : Nat → Byte → Byte
  | 0, c => c
  | k + 1, c => crcShifts k (crcShift c)

/-- One byte of 40 R100: it enters at the top, then 8 bit-steps. -/
def crcByte (c b : Byte) : Byte := crcShifts 8 (c ^^^ b)

/-- 40 R100: the CRC of the group (b0, b1), b0 first, no final exclusive-or. -/
def crc8 (b0 b1 : Byte) : Byte := crcByte (crcByte crcInit b0) b1

/-- The test every consumed group gets (40 R109, 42 R142): its third byte is the CRC of the first two. -/
def groupOk (d0 d1 c : Byte) : Bool := crc8 d0 d1 == c

/-- The CRC engine runs one group: its working register holds the group's CRC (10 R34). -/
def crcEngine (b0 b1 : Byte) (s : State) : State := { s with crc := crc8 b0 b1 }

/-- CRCOUT <- crc8(b0, b1): the engine runs, and its register is copied to CRCOUT (10 R34, 40 R107). -/
def crcToOut (b0 b1 : Byte) (s : State) : State :=
  { crcEngine b0 b1 s with crcout := (crcEngine b0 b1 s).crc }

/-- CRC8 (40 R107). -/
def execCrc8 (b0 b1 : Byte) (s : State) : Host.Outcome State Fault Refusal :=
  .next (finish (crcToOut b0 b1 s))

/-- CHECK (40 R108): CRCOUT is written on a mismatch too. -/
def execCheck (b0 b1 c : Byte) (s : State) : Host.Outcome State Fault Refusal :=
  .next (if groupOk b0 b1 c then finish (crcToOut b0 b1 s) else raise .protocol (crcToOut b0 b1 s))

end Sys2Proof.Machine
end

