-- ==== Sys2Proof/Machine/FrameEncode.lean ====
section
/-! DEFINITION. The frame encoder (41_frame_encode.md R120) and the command WRITE (R121). -/

namespace Sys2Proof.Machine

/-- The 3-byte group of one parameter word: big-endian, then its CRC (41 R120, 30 R71). -/
def wordGroup (w : Word) : List Byte := [hiByte w, loByte w, crc8 (hiByte w) (loByte w)]

/-- `Frame(op, ws)` (41 R120): the opcode with no CRC, then one group per word. -/
def frame (op : Word) (ws : List Word) : List Byte :=
  [hiByte op, loByte op] ++ ws.flatMap wordGroup

/-- The engine's working register after the CRCs of `ws` (10 R34), the last word's last (log entry 12). -/
def crcOfWords (ws : List Word) (c : Byte) : Byte :=
  ws.foldl (fun _ w => crc8 (hiByte w) (loByte w)) c

/-- A WRITE that fails its sentinel or word-count check (10 R26, R27): no frame, no transport call. -/
def refuseFrame (k : Kind) (s : State) : State :=
  raise k { unspecifyTxf s with txlen := 0 }

/-- The frame is built and kept: TXF[0 .. |f|−1] <- f, TXLEN <- |f| (41 R121). -/
def buildFrame (op : Word) (ws : List Word) (s : State) : State :=
  { s with
    crc := crcOfWords ws s.crc
    txf := overlay (frame op ws) s.txf
    txlen := BitVec.ofNat 8 (frame op ws).length }

/-- The frame is built and handed to the transport, whose answer goes to STATUS (41 R121). -/
def sendFrame (op : Word) (ws : List Word) (s : State) : State :=
  raise (writeAnswerKind (writeAnswer s)) (transportWrite (frame op ws) (buildFrame op ws s))

/-- WRITE (41 R121): the sentinel, then the word count (60 R173), then the frame. The fault stands where R121's
pseudocode says "the model faults here" (41_frame_encode.md:37). -/
def execWrite (n : BitVec 8) (op : Word) (s : State) : Host.Outcome State Fault Refusal :=
  if op = 0x0000 then .next (refuseFrame .unknownCommand s)
  else if s.cfg.maxTxWords < n.toNat then .next (refuseFrame .invalidParameter s)
  else
    match firstUnwritten s n.toNat with
    | some k => .fault (.unwrittenTxw k)
    | none => .next (sendFrame op (txWords s n.toNat) s)

end Sys2Proof.Machine
end

