-- ==== Sys2Proof/Machine/FrameDecode.lean ====
section
/-! DEFINITION. The frame decoder (42_frame_decode.md R140 to R148) and the commands READF and READZ (R144, R145). -/

namespace Sys2Proof.Machine

/-- How the loop over the groups of a response ends (42 R142). -/
structure GroupRun where
  /-- No consumed group's CRC failed. -/
  ok : Bool
  /-- The data bytes assembled. -/
  out : List Byte
  /-- The engine's working register after the last group consumed (10 R34). -/
  crc : Byte
  /-- What is left in `rxq`. -/
  left : List Byte
deriving DecidableEq, Repr

/-- The group `00 00` ends a zero-terminated read (42 R140, R146). -/
def isTerminator (mode : ReadMode) (d0 d1 : Byte) : Bool :=
  mode = .zero && d0 = 0x00 && d1 = 0x00

/-- The loop of 42 R142 over the queue: a group's CRC first, then its bytes are kept, then the terminator
test (R146). A partial group is never decoded (20 R55). `c` is the working register before. -/
def runGroups (mode : ReadMode) (c : Byte) : List Byte → GroupRun
  | d0 :: d1 :: g :: rest =>
    if groupOk d0 d1 g = false then
      { ok := false, out := [], crc := crc8 d0 d1, left := rest }
    else if isTerminator mode d0 d1 then
      { ok := true, out := [d0, d1], crc := crc8 d0 d1, left := rest }
    else
      let r := runGroups mode (crc8 d0 d1) rest
      { r with out := d0 :: d1 :: r.out }
  | left => { ok := true, out := [], crc := c, left := left }

/-- 42 R141: the wire bytes a read of N data bytes asks for, R = 3·(N div 2). -/
def requestLength (n : Nat) : Nat := 3 * (n / 2)

/-- 42 R143: the range of N. -/
def countInRange (n : Nat) (s : State) : Bool := decide (2 ≤ n ∧ n ≤ s.cfg.maxRxData)

/-- A read that fails (42 R148): RXLEN = 0, RXD unspecified, `rxq` empty, and the kind in STATUS. -/
def failRead (k : Kind) (s : State) : State :=
  raise k (drain { unspecifyRxd s with rxlen := 0 })

/-- A read that ends with OK: RXD[0 .. |out|−1] <- out, RXLEN <- |out|, `rxq` drained (42 R142). -/
def completeRead (out : List Byte) (s : State) : State :=
  finish (drain { s with rxd := overlay out s.rxd, rxlen := BitVec.ofNat 8 out.length })

/-- The groups in `rxq` are consumed: the queue keeps what the loop left, the engine its last CRC. -/
def consumeGroups (mode : ReadMode) (s : State) : State :=
  { s with crc := (runGroups mode s.crc s.rxq).crc, rxq := (runGroups mode s.crc s.rxq).left }

/-- 42 R142 after the loop, by how it ended: a failed CRC, then in fixed-count mode the assembled count
(60 R174), then OK. -/
def endRead (mode : ReadMode) (n : Nat) (run : GroupRun) (s : State) : State :=
  if run.ok = false then failRead .protocol s
  else if mode = .fixed ∧ run.out.length ≠ n then failRead .dataLength s
  else completeRead run.out s

/-- 42 R142 after the count check: the queue holds the whole response. -/
def decodeResponse (mode : ReadMode) (n : Nat) (s : State) : State :=
  endRead mode n (runGroups mode s.crc s.rxq) (consumeGroups mode s)

/-- 42 R142 after the transport call: its error, the byte count, then the groups (60 R174). -/
def takeResponse (mode : ReadMode) (n : Nat) (a : ReadAnswer) (s : State) : State :=
  match a with
  | .error e => failRead (busErrorKind e) s
  | .bytes l =>
    if l.length ≠ requestLength n then failRead .protocol (loadRxq l s)
    else decodeResponse mode n (loadRxq l s)

/-- `ReadDecode(mode, N)` (42 R142). -/
def readDecode (mode : ReadMode) (n : Nat) (s : State) : State :=
  if countInRange n s then takeResponse mode n (readAnswer s) (transportRead (requestLength n) s)
  else failRead .invalidParameter s

/-- READF (42 R144). -/
def execReadf (n : BitVec 8) (s : State) : Host.Outcome State Fault Refusal :=
  .next (readDecode .fixed n.toNat s)

/-- READZ (42 R145). -/
def execReadz (n : BitVec 8) (s : State) : Host.Outcome State Fault Refusal :=
  .next (readDecode .zero n.toNat s)

end Sys2Proof.Machine
end

