-- ==== Sys2Proof/Machine/Dispatch.lean ====
section
/-! DEFINITION. One arm per command (30_encoding.md R78), each one direct call of its meaning. -/

namespace Sys2Proof.Machine

def exec (i : Instr) (s : State) : Host.Outcome State Fault Refusal :=
  match i with
  | .crc8 b0 b1 => Sys2Proof.Machine.execCrc8 b0 b1 s
  | .check b0 b1 c => Sys2Proof.Machine.execCheck b0 b1 c s
  | .write n op => Sys2Proof.Machine.execWrite n op s
  | .readf n => Sys2Proof.Machine.execReadf n s
  | .readz n => Sys2Proof.Machine.execReadz n s

end Sys2Proof.Machine
end

