-- ==== Sys2Proof/Machine/HostPort.lean ====
section
/-! DEFINITION. The host's side of the codec: a CMD write runs one command (10_state.md R21, 30_encoding.md R83),
the other registers are read and written whole (10 R36), and reset acts between commands (70 R200, R201). -/

namespace Sys2Proof.Machine

/-- A host write of `c` to CMD: one command, or, for a reserved word, STATUS <- InvalidParameter and
nothing else (30 R80, R83; 90 C4). -/
def runCommand (c : CmdWord) (s : State) : Host.Outcome State Fault Refusal :=
  match decode c with
  | .ok i => exec i s
  | .error _ => .next (raise .invalidParameter s)

/-- BUSADDR keeps bits [6:0] of the value written (10 R22). -/
def setBusaddr (v : BitVec 32) (s : State) : State := { s with busaddr := v.setWidth 7 }

/-- TXW[i] holds the word written and is written from now on (10 R23, R37). -/
def setTxw (i : Nat) (v : BitVec 32) (s : State) : State :=
  { s with txw := s.txw.set i { value := v.setWidth 16, written := true } }

/-- A host write of one register (10 R36): a read-only register ignores it; an index outside its array is
refused. -/
def hostWrite (r : Reg) (v : BitVec 32) (s : State) : Host.Outcome State Fault Refusal :=
  match r with
  | .cmd => runCommand v s
  | .busaddr => .next (setBusaddr v s)
  | .txw i => if i < s.cfg.maxTxWords then .next (setTxw i v s) else .refused (.noSuchRegister r)
  | .status => .next s
  | .crcout => .next s
  | .txlen => .next s
  | .txf j => if j < s.cfg.txfSize then .next s else .refused (.noSuchRegister r)
  | .rxlen => .next s
  | .rxd j => if j < s.cfg.maxRxData then .next s else .refused (.noSuchRegister r)

/-- The value `v` goes to the host (log entry 4); no register of the codec changes (10 R36, 20 R59). -/
def returnData {w : Nat} (v : BitVec w) (s : State) : Host.Outcome State Fault Refusal :=
  .next { s with readData := v.setWidth 32 }

/-- A host read of one register (10 R36), with the refusals of R21 and R36 and the faults of R37, which says of an
element that holds no defined value that "a host read of one faults in the model" (10_state.md:160). -/
def hostRead (r : Reg) (s : State) : Host.Outcome State Fault Refusal :=
  match r with
  | .cmd => .refused .readOfCmd
  | .busaddr => returnData s.busaddr s
  | .txw i =>
    if i < s.cfg.maxTxWords then
      if txwWritten s i then returnData (txwValue s i) s else .fault (.unwrittenTxw i)
    else .refused (.noSuchRegister r)
  | .status => returnData s.status s
  | .crcout => returnData s.crcout s
  | .txlen => returnData s.txlen s
  | .txf j =>
    if j < s.cfg.txfSize then
      if j < s.txlen.toNat then returnData (s.txf[j]?.getD 0) s else .fault (.unspecifiedTxf j)
    else .refused (.noSuchRegister r)
  | .rxlen => returnData s.rxlen s
  | .rxd j =>
    if j < s.cfg.maxRxData then
      if j < s.rxlen.toNat then returnData (s.rxd[j]?.getD 0) s else .fault (.unspecifiedRxd j)
    else .refused (.noSuchRegister r)

/-- Reset is asserted (70 R200): the codec's state takes the values of 10 R39, the parameters stay (R40),
no transport call is made; what belongs to the host and the transport stays (log entry 19). -/
def assertReset (s : State) : State :=
  { State.resetOf s.cfg with
    hostq := s.hostq
    writeAnswers := s.writeAnswers
    readAnswers := s.readAnswers
    calls := s.calls
    readData := s.readData
    free := s.free }

/-- One access of the host. -/
def hostAccess (a : HostAccess) (s : State) : Host.Outcome State Fault Refusal :=
  match a with
  | .write r v => hostWrite r v s
  | .read r => hostRead r s
  | .reset => .next (assertReset s)

/-- The next access of the host is taken from `hostq` and done; with none waiting the codec is idle and
keeps its state (60 R184, 70 R202). -/
def nextAccess (s : State) : Host.Outcome State Fault Refusal :=
  match s.hostq with
  | [] => .next s
  | a :: rest => hostAccess a { s with hostq := rest }

/-- `s` with a write of `c` to CMD as the host's next access (log entry 1). -/
def withCommand (c : CmdWord) (s : State) : State := { s with hostq := .write .cmd c :: s.hostq }

end Sys2Proof.Machine
end

