-- ==== Sys2Proof/Machine/Asm.lean ====
section
/-! DEFINITION. The assembler of 30_encoding.md R85 and the pseudo-instructions of R86: a line's text, its tokens,
its check, and the host accesses it stands for. -/

namespace Sys2Proof.Machine

/-- 30 R85, the column "CMD value", for the five commands. -/
def cmdCrc8 (b0 b1 : Nat) : Nat := (0x1 <<< 28) ||| (b0 <<< 8) ||| b1

/-- `check b0, b1, c` (30 R85). -/
def cmdCheck (b0 b1 c : Nat) : Nat := (0x2 <<< 28) ||| (c <<< 16) ||| (b0 <<< 8) ||| b1

/-- `write n, op` (30 R85). -/
def cmdWrite (n op : Nat) : Nat := (0x3 <<< 28) ||| (n <<< 16) ||| op

/-- `readf N` (30 R85). -/
def cmdReadf (n : Nat) : Nat := (0x4 <<< 28) ||| (n <<< 16)

/-- `readz N` (30 R85). -/
def cmdReadz (n : Nat) : Nat := (0x5 <<< 28) ||| (n <<< 16)

/-- A host write of the CMD value `v`. -/
def issue (v : Nat) : HostAccess := .write .cmd (BitVec.ofNat 32 v)

/-- `TXW[i] <- v`. -/
def loadTxw (i : Nat) (w : Word) : HostAccess := .write (.txw i) (w.setWidth 32)

/-- `TXW[0] <- w0` ... `TXW[n−1] <- w(n−1)`, then `write n, op` (30 R86, writew). -/
def expandWritew (op : Nat) (ws : List Word) : List HostAccess :=
  ws.mapIdx loadTxw ++ [issue (cmdWrite ws.length op)]

/-- The indices from `i` to `j`. -/
def indices (i j : Nat) : List Nat := List.range' i (j + 1 - i)

/-- The registers of a range (95 P3): the elements of one array from the first to the last, in order; of two
registers that are not of one array, none (DESIGN CHOICE, log entry 11). -/
def regsBetween : Reg → Reg → List Reg
  | .txw i, .txw j => (indices i j).map .txw
  | .txf i, .txf j => (indices i j).map .txf
  | .rxd i, .rxd j => (indices i j).map .rxd
  | _, _ => []

/-- The host accesses a well-formed line stands for (30 R85, R86); of a blank line, none (log entry 11). -/
def expand : Line → List HostAccess
  | .crc8 b0 b1 => [issue (cmdCrc8 b0 b1)]
  | .check b0 b1 c => [issue (cmdCheck b0 b1 c)]
  | .write n op => [issue (cmdWrite n op)]
  | .readf n => [issue (cmdReadf n)]
  | .readz n => [issue (cmdReadz n)]
  | .send op => [issue (cmdWrite 0 op)]
  | .writew op ws => expandWritew op (ws.map (BitVec.ofNat 16))
  | .writes op ss => expandWritew op (ss.map signedPattern)
  | .verify b0 b1 c => [issue (cmdCheck b0 b1 c)]
  | .readstr n => [issue (cmdReadz n)]
  | .setBusaddr v => [.write .busaddr (BitVec.ofNat 32 v)]
  | .setTxw i v => [loadTxw i (BitVec.ofNat 16 v)]
  | .setCmd v => [issue v]
  | .readReg r => [.read r]
  | .readRange lo hi => (regsBetween lo hi).map .read
  | .blank => []

/-- 30 R85: the accesses of a line, or `none` where the assembler rejects it. -/
def assemble (l : Line) : Option (List HostAccess) :=
  if l.wellFormed then some (expand l) else none

/-- The value of a digit, decimal or hexadecimal. -/
def digitValue (c : Char) : Nat :=
  if c.isDigit then c.toNat - '0'.toNat else c.toLower.toNat - 'a'.toNat + 10

/-- A character of a hexadecimal number. -/
def isHexDigit (c : Char) : Bool := c.isDigit || (97 ≤ c.toLower.toNat && c.toLower.toNat ≤ 102)

/-- The number a list of digits stands for in `base`. -/
def digitsValue (base : Nat) (cs : List Char) : Nat :=
  cs.foldl (fun n c => n * base + digitValue c) 0

/-- 30 R85: "Numbers are decimal or `0x` hex." -/
def number (cs : List Char) : Option Nat :=
  match cs with
  | '0' :: 'x' :: d :: ds =>
    if (d :: ds).all isHexDigit then some (digitsValue 16 (d :: ds)) else none
  | d :: ds => if (d :: ds).all Char.isDigit then some (digitsValue 10 (d :: ds)) else none
  | [] => none

/-- The token of a run of letters and digits: a number if it begins with a digit, else a name. -/
def wordToken (cs : List Char) : Option Token :=
  match cs with
  | c :: _ => if c.isDigit then (number cs).map .num else some (.name cs)
  | [] => none

/-- The run of letters and digits read so far (in reverse) becomes a token before `rest`. -/
def flushWord (acc : List Char) (rest : Option (List Token)) : Option (List Token) :=
  if acc.isEmpty then rest
  else (wordToken acc.reverse).bind fun t => rest.map (t :: ·)

/-- The token of one punctuation character; the braces are the characters 123 and 125. A single dot is none: the
two dots of a range are read by `tokens` (log entry 11). -/
def punctuation (c : Char) : Option Token :=
  if c = ',' then some .comma
  else if c = '-' then some .minus
  else if c = '[' then some .openBracket
  else if c = ']' then some .closeBracket
  else if c.toNat = 123 then some .openBrace
  else if c.toNat = 125 then some .closeBrace
  else none

/-- The tokens of a line; blanks separate, two dots are the mark of a range, and a semicolon begins a comment
(log entry 11). -/
def tokens : List Char → List Char → Option (List Token)
  | [], acc => flushWord acc (some [])
  | '<' :: '-' :: cs, acc => flushWord acc ((tokens cs []).map (.arrow :: ·))
  | '.' :: '.' :: cs, acc => flushWord acc ((tokens cs []).map (.dots :: ·))
  | c :: cs, acc =>
    if c.isAlphanum then tokens cs (c :: acc)
    else if c = ' ' || c = '\t' then flushWord acc (tokens cs [])
    else if c = ';' then flushWord acc (some [])
    else
      match punctuation c with
      | some t => flushWord acc ((tokens cs []).map (t :: ·))
      | none => none

/-- Numbers separated by commas, to the end of the line. -/
def numbers : List Token → Option (List Nat)
  | [.num n] => some [n]
  | .num n :: .comma :: ts => (numbers ts).map (n :: ·)
  | _ => none

/-- Signed numbers separated by commas, up to the closing brace at the end of the line. -/
def signedNumbers : List Token → Option (List Int)
  | [.num n, .closeBrace] => some [(n : Int)]
  | [.minus, .num n, .closeBrace] => some [-(n : Int)]
  | .num n :: .comma :: ts => (signedNumbers ts).map ((n : Int) :: ·)
  | .minus :: .num n :: .comma :: ts => (signedNumbers ts).map (-(n : Int) :: ·)
  | _ => none

/-- The braced list of a `writew` or `writes` line; it may be empty. -/
def bracedNumbers : List Token → Option (List Int)
  | [.openBrace, .closeBrace] => some []
  | .openBrace :: ts => signedNumbers ts
  | _ => none

/-- The unsigned words of a `writew` line. A sign makes the line rejected, before a zero too (`-0`): 30 R86 gives
signed words to `writes` only (DESIGN CHOICE, log entry 11). -/
def bracedWords (ts : List Token) : Option (List Nat) :=
  if .minus ∈ ts then none else (bracedNumbers ts).map fun vs => vs.map Int.toNat

/-- The name of a register that is not an array's element (10 R20). -/
def plainReg (cs : List Char) : Option Reg :=
  if cs = "CMD".toList then some .cmd
  else if cs = "BUSADDR".toList then some .busaddr
  else if cs = "STATUS".toList then some .status
  else if cs = "CRCOUT".toList then some .crcout
  else if cs = "TXLEN".toList then some .txlen
  else if cs = "RXLEN".toList then some .rxlen
  else none

/-- The name of an array register and an index (10 R20). -/
def arrayReg (cs : List Char) (i : Nat) : Option Reg :=
  if cs = "TXW".toList then some (.txw i)
  else if cs = "TXF".toList then some (.txf i)
  else if cs = "RXD".toList then some (.rxd i)
  else none

/-- The line of `read` with what follows it: one register (30 R85), or the range form of 95 P3, which R85 does
not give (DESIGN CHOICE, log entry 11). -/
def readOperands (ts : List Token) : Option Line :=
  match ts with
  | [.name r] => (plainReg r).map .readReg
  | [.name r, .openBracket, .num i, .closeBracket] => (arrayReg r i).map .readReg
  | [.name r, .openBracket, .num i, .closeBracket, .dots, .name q, .openBracket, .num j, .closeBracket] =>
    (arrayReg r i).bind fun lo => (arrayReg q j).map fun hi => .readRange lo hi
  | _ => none

/-- The operands of a line whose mnemonic is `m`, in lower case (30 R85, R86). -/
def operandsOf (m : List Char) (ts : List Token) : Option Line :=
  if m = "crc8".toList then
    match numbers ts with | some [b0, b1] => some (.crc8 b0 b1) | _ => none
  else if m = "check".toList then
    match numbers ts with | some [b0, b1, c] => some (.check b0 b1 c) | _ => none
  else if m = "write".toList then
    match numbers ts with | some [n, op] => some (.write n op) | _ => none
  else if m = "readf".toList then
    match numbers ts with | some [n] => some (.readf n) | _ => none
  else if m = "readz".toList then
    match numbers ts with | some [n] => some (.readz n) | _ => none
  else if m = "send".toList then
    match numbers ts with | some [op] => some (.send op) | _ => none
  else if m = "writew".toList then
    match ts with
    | .num op :: .comma :: rest => (bracedWords rest).map (.writew op)
    | _ => none
  else if m = "writes".toList then
    match ts with
    | .num op :: .comma :: rest => (bracedNumbers rest).map (.writes op)
    | _ => none
  else if m = "verify".toList then
    match numbers ts with | some [b0, b1, c] => some (.verify b0 b1 c) | _ => none
  else if m = "readstr".toList then
    match numbers ts with | some [n] => some (.readstr n) | _ => none
  else if m = "read".toList then readOperands ts
  else none

/-- A line from its tokens: a register action `R <- v`, or a mnemonic, in capitals or not, and its
operands (30 R85). A line with no token is a blank one, not an error (DESIGN CHOICE, log entry 11). -/
def lineOfTokens : List Token → Option Line
  | [] => some .blank
  | [.name r, .arrow, .num v] =>
    match plainReg r with
    | some .busaddr => some (.setBusaddr v)
    | some .cmd => some (.setCmd v)
    | _ => none
  | [.name r, .openBracket, .num i, .closeBracket, .arrow, .num v] =>
    match arrayReg r i with
    | some (.txw k) => some (.setTxw k v)
    | _ => none
  | .name m :: ts => operandsOf (m.map Char.toLower) ts
  | _ => none

/-- A line from its text. -/
def parseLine (cs : List Char) : Option Line := (tokens cs []).bind lineOfTokens

/-- The host accesses of a line of text, or `none` where the assembler rejects it (30 R85). -/
def assembleText (cs : List Char) : Option (List HostAccess) := (parseLine cs).bind assemble

end Sys2Proof.Machine
end

