-- ==== Sys2Proof/Machine/Step.lean ====
section
/-! DEFINITION. One step of the machine: the host's next access (20_memory.md R57, R62). -/

namespace Sys2Proof.Machine

/-- One step: the codec does the host's next access, to its end (10 R21). -/
def step (s : State) : Host.Outcome State Fault Refusal := nextAccess s

/-- `s` with a CMD write of the opcode table's word `w` as the host's next access, so that the next step
runs it (log entries 1 and 13). -/
def State.withFetchWord (s : State) (nbits w : Nat) : State := withCommand (tableWord nbits w) s

end Sys2Proof.Machine
end

