-- ==== Sys2Proof/Safety.lean ====
section
/-! DEFINITION. What statements about the codec are written with: the invariant of its states, which accesses run
to their end, which parts of a state nobody can observe, and the groups of a response by index. -/

namespace Sys2Proof.Machine

/-- 60 R171: the codes the codec writes to STATUS. -/
abbrev LegalStatus (v : BitVec 4) : Prop := v = 0 ∨ v = 1 ∨ v = 2 ∨ v = 4 ∨ v = 7 ∨ v = 8

/-- A frame that may reach the bus: an opcode that is not the sentinel (70 R207), and at most MAX_TX_WORDS words. -/
def ProperFrame (c : Config) (op : Word) (ws : List Word) : Prop :=
  op ≠ 0x0000 ∧ ws.length ≤ c.maxTxWords

/-- A transport call of the form 20 R57 gives: a whole frame, or a request of 3·(N div 2) bytes for an N in
range. -/
def ProperCall (c : Config) : BusCall → Prop
  | .write _ bytes => ∃ op ws, ProperFrame c op ws ∧ bytes = frame op ws
  | .read _ count => ∃ n, 2 ≤ n ∧ n ≤ c.maxRxData ∧ count = 3 * (n / 2)

/-- TXF[0 .. TXLEN−1] holds the frame the last WRITE built, if it built one (10 R20, R26, R27). -/
def HoldsFrame (s : State) : Prop :=
  s.txlen = 0 ∨ ∃ op ws, ProperFrame s.cfg op ws ∧ s.txlen.toNat = (frame op ws).length ∧
    s.txf.take s.txlen.toNat = frame op ws

/-- The invariant of the codec's states. -/
structure State.Inv (s : State) : Prop where
  /-- The parameters are in the ranges of 00 R10. -/
  cfgValid : s.cfg.Valid
  /-- The arrays have the sizes of 10 R20. -/
  txwLength : s.txw.length = s.cfg.maxTxWords
  txfLength : s.txf.length = s.cfg.txfSize
  rxdLength : s.rxd.length = s.cfg.maxRxData
  /-- `rxq` is empty between commands (10 R35). -/
  rxqEmpty : s.rxq = []
  /-- STATUS holds a code the codec writes (60 R171). -/
  statusLegal : LegalStatus s.status
  /-- TXF holds a frame, or nothing. -/
  frameHeld : HoldsFrame s
  /-- RXLEN is even (42 R150) and within RXD. -/
  rxlenEven : s.rxlen.toNat % 2 = 0
  rxlenFits : s.rxlen.toNat ≤ s.cfg.maxRxData
  /-- Every call the transport has seen has its proper form. -/
  callsProper : ∀ c ∈ s.calls, ProperCall s.cfg c

/-- Host duty H-7 (60 R182) and 70 R204: the words a WRITE that passes its checks takes are written. -/
def WordsLoaded (i : Instr) (s : State) : Prop :=
  match i with
  | .write n op => op ≠ 0x0000 → n.toNat ≤ s.cfg.maxTxWords → ∀ k < n.toNat, txwWritten s k = true
  | .crc8 _ _ => True
  | .check _ _ _ => True
  | .readf _ => True
  | .readz _ => True

/-- The register exists in an instance with parameters `c` (10 R20, R36). -/
def RegExists (c : Config) : Reg → Prop
  | .txw i => i < c.maxTxWords
  | .txf j => j < c.txfSize
  | .rxd j => j < c.maxRxData
  | .cmd => True
  | .busaddr => True
  | .status => True
  | .crcout => True
  | .txlen => True
  | .rxlen => True

/-- The register holds a value the host may read (10 R21, R37). -/
def RegDefined (s : State) : Reg → Prop
  | .cmd => False
  | .txw i => txwWritten s i = true
  | .txf j => j < s.txlen.toNat
  | .rxd j => j < s.rxlen.toNat
  | .busaddr => True
  | .status => True
  | .crcout => True
  | .txlen => True
  | .rxlen => True

/-- The access runs to its end: it names a register that exists, reads only defined values, and a WRITE it
issues finds its words loaded. -/
def SafeAccess (a : HostAccess) (s : State) : Prop :=
  match a with
  | .write .cmd c => ∀ i, decode c = .ok i → WordsLoaded i s
  | .write r _ => RegExists s.cfg r
  | .read r => RegExists s.cfg r ∧ RegDefined s r
  | .reset => True

/-- Two TXW arrays that differ at most in the values of unwritten elements (10 R37). -/
def AgreeTxw (s t : State) : Prop :=
  s.txw.length = t.txw.length ∧ ∀ k, txwWritten s k = txwWritten t k ∧
    (txwWritten s k = true → txwValue s k = txwValue t k)

/-- Two arrays of one length that agree below index `n`. -/
def AgreeBelow (n : Nat) (a b : List Byte) : Prop :=
  a.length = b.length ∧ ∀ j < n, a[j]? = b[j]?

/-- Two states that differ at most where nothing is defined or visible: the hidden `crc` and `rxq` (10 R34,
R35), and the array elements that hold no defined value (10 R37). -/
structure Indistinguishable (s t : State) : Prop where
  cfg : s.cfg = t.cfg
  busaddr : s.busaddr = t.busaddr
  txw : AgreeTxw s t
  status : s.status = t.status
  crcout : s.crcout = t.crcout
  txlen : s.txlen = t.txlen
  txf : AgreeBelow s.txlen.toNat s.txf t.txf
  rxlen : s.rxlen = t.rxlen
  rxd : AgreeBelow s.rxlen.toNat s.rxd t.rxd
  hostq : s.hostq = t.hostq
  writeAnswers : s.writeAnswers = t.writeAnswers
  readAnswers : s.readAnswers = t.readAnswers
  calls : s.calls = t.calls
  readData : s.readData = t.readData
  free : s.free = t.free

/-- Two outcomes of the same kind: related next states, or the same stop. -/
def SameOutcome (R : State → State → Prop) (a b : Host.Outcome State Fault Refusal) : Prop :=
  match a, b with
  | .next s, .next t => R s t
  | .fault f, .fault g => f = g
  | .refused f, .refused g => f = g
  | _, _ => False

/-- The byte at index `i` of a byte list. -/
def byteAt (l : List Byte) (i : Nat) : Byte := l[i]?.getD 0

/-- Group `k` of a response: its CRC byte is the CRC of its data bytes (30 R72). -/
abbrev GroupValid (l : List Byte) (k : Nat) : Prop :=
  byteAt l (3 * k + 2) = crc8 (byteAt l (3 * k)) (byteAt l (3 * k + 1))

/-- Group `k` of a response has the data bytes {0,0} (42 R140). -/
abbrev GroupZero (l : List Byte) (k : Nat) : Prop :=
  byteAt l (3 * k) = 0x00 ∧ byteAt l (3 * k + 1) = 0x00

/-- The groups of a response of `g` groups that a read consumes while every CRC is valid: all of them in
fixed-count mode, those up to and including the first {0,0} in zero-terminated mode (42 R140, R149). -/
def Consumed (mode : ReadMode) (l : List Byte) (g k : Nat) : Prop :=
  k < g ∧ (mode = .zero → ∀ j < k, ¬ GroupZero l j)

/-- The read command of a mode (42 R140). -/
def readInstr : ReadMode → BitVec 8 → Instr
  | .fixed, n => .readf n
  | .zero, n => .readz n

/-- A 3-byte group as 24 bits, the first byte highest (40 R105). -/
def group24 (b0 b1 c : Byte) : BitVec 24 := b0 ++ b1 ++ c

/-- The valid group of word `w` with the bits of `e` flipped still passes the CRC test (40 R105). -/
def survives (w : Word) (e : BitVec 24) : Bool :=
  let g := group24 (hiByte w) (loByte w) (crc8 (hiByte w) (loByte w)) ^^^ e
  groupOk (g.extractLsb' 16 8) (g.extractLsb' 8 8) (g.extractLsb' 0 8)

/-- The `k`-element sublists of a list. -/
def choices : Nat → List Nat → List (List Nat)
  | 0, _ => [[]]
  | _ + 1, [] => []
  | k + 1, x :: xs => (choices k xs).map (x :: ·) ++ choices (k + 1) xs

/-- The 24-bit pattern with exactly the bits `is` set. -/
def flipMask (is : List Nat) : BitVec 24 := is.foldr (fun i m => m ^^^ (1#24 <<< i)) 0

/-- The table T of 95_test_vectors.md section V2, rows 0x00 to 0x70. -/
def crcTableLow : List Nat :=
  [0x00, 0x31, 0x62, 0x53, 0xC4, 0xF5, 0xA6, 0x97, 0xB9, 0x88, 0xDB, 0xEA, 0x7D, 0x4C, 0x1F, 0x2E] ++
  [0x43, 0x72, 0x21, 0x10, 0x87, 0xB6, 0xE5, 0xD4, 0xFA, 0xCB, 0x98, 0xA9, 0x3E, 0x0F, 0x5C, 0x6D] ++
  [0x86, 0xB7, 0xE4, 0xD5, 0x42, 0x73, 0x20, 0x11, 0x3F, 0x0E, 0x5D, 0x6C, 0xFB, 0xCA, 0x99, 0xA8] ++
  [0xC5, 0xF4, 0xA7, 0x96, 0x01, 0x30, 0x63, 0x52, 0x7C, 0x4D, 0x1E, 0x2F, 0xB8, 0x89, 0xDA, 0xEB] ++
  [0x3D, 0x0C, 0x5F, 0x6E, 0xF9, 0xC8, 0x9B, 0xAA, 0x84, 0xB5, 0xE6, 0xD7, 0x40, 0x71, 0x22, 0x13] ++
  [0x7E, 0x4F, 0x1C, 0x2D, 0xBA, 0x8B, 0xD8, 0xE9, 0xC7, 0xF6, 0xA5, 0x94, 0x03, 0x32, 0x61, 0x50] ++
  [0xBB, 0x8A, 0xD9, 0xE8, 0x7F, 0x4E, 0x1D, 0x2C, 0x02, 0x33, 0x60, 0x51, 0xC6, 0xF7, 0xA4, 0x95] ++
  [0xF8, 0xC9, 0x9A, 0xAB, 0x3C, 0x0D, 0x5E, 0x6F, 0x41, 0x70, 0x23, 0x12, 0x85, 0xB4, 0xE7, 0xD6]

/-- The table T of 95_test_vectors.md section V2, rows 0x80 to 0xF0. -/
def crcTableHigh : List Nat :=
  [0x7A, 0x4B, 0x18, 0x29, 0xBE, 0x8F, 0xDC, 0xED, 0xC3, 0xF2, 0xA1, 0x90, 0x07, 0x36, 0x65, 0x54] ++
  [0x39, 0x08, 0x5B, 0x6A, 0xFD, 0xCC, 0x9F, 0xAE, 0x80, 0xB1, 0xE2, 0xD3, 0x44, 0x75, 0x26, 0x17] ++
  [0xFC, 0xCD, 0x9E, 0xAF, 0x38, 0x09, 0x5A, 0x6B, 0x45, 0x74, 0x27, 0x16, 0x81, 0xB0, 0xE3, 0xD2] ++
  [0xBF, 0x8E, 0xDD, 0xEC, 0x7B, 0x4A, 0x19, 0x28, 0x06, 0x37, 0x64, 0x55, 0xC2, 0xF3, 0xA0, 0x91] ++
  [0x47, 0x76, 0x25, 0x14, 0x83, 0xB2, 0xE1, 0xD0, 0xFE, 0xCF, 0x9C, 0xAD, 0x3A, 0x0B, 0x58, 0x69] ++
  [0x04, 0x35, 0x66, 0x57, 0xC0, 0xF1, 0xA2, 0x93, 0xBD, 0x8C, 0xDF, 0xEE, 0x79, 0x48, 0x1B, 0x2A] ++
  [0xC1, 0xF0, 0xA3, 0x92, 0x05, 0x34, 0x67, 0x56, 0x78, 0x49, 0x1A, 0x2B, 0xBC, 0x8D, 0xDE, 0xEF] ++
  [0x82, 0xB3, 0xE0, 0xD1, 0x46, 0x77, 0x24, 0x15, 0x3B, 0x0A, 0x59, 0x68, 0xFF, 0xCE, 0x9D, 0xAC]

/-- T[x] (40 R103). -/
def crcTable (x : Byte) : Byte := BitVec.ofNat 8 ((crcTableLow ++ crcTableHigh)[x.toNat]?.getD 0)

end Sys2Proof.Machine
end

