-- ==== Sys2Proof/Certificates/Slice0/Obligations.lean ====
section
/-! DEFINITION. The statements for the provers, each formalising what a rule of spec/ says the codec does.
`writeAnswer s` and `readAnswer s` are the answers the transport gives the next call: any answer, in some state. -/

open Sys2Proof Sys2Proof.Machine

/-! ### The command word -/

/-- 10 R21: a CMD write runs exactly the command it decodes to, in one step and before the next access; a
reserved word writes STATUS only; CMD cannot be read. -/
def Obligations.StepRunsDecodedCommand : Prop :=
  (∀ s c rest i, s.hostq = .write .cmd c :: rest → decode c = .ok i →
    step s = exec i { s with hostq := rest }) ∧
  (∀ s c rest e, s.hostq = .write .cmd c :: rest → decode c = .error e →
    step s = .next { s with hostq := rest, status := 4 }) ∧
  (∀ s rest, s.hostq = .read .cmd :: rest → step s = .refused .readOfCmd)

/-- 60 R184, 70 R202: with no access waiting the codec runs nothing and keeps all its state. -/
def Obligations.IdleKeepsState : Prop := ∀ s : State, s.hostq = [] → step s = .next s

/-- Sanity: words written out from 30 R77 to R79 and 95 sections 2 to 5 decode to their commands. -/
def Obligations.SampleWordsDecode : Prop :=
  decode 0x1000BEEF = .ok (.crc8 0xBE 0xEF) ∧
  decode 0x2092BEEF = .ok (.check 0xBE 0xEF 0x92) ∧
  decode 0x30021234 = .ok (.write 2 0x1234) ∧
  decode 0x40040000 = .ok (.readf 4) ∧
  decode 0x50060000 = .ok (.readz 6) ∧
  decode 0x3F021234 = .error .reservedRsv ∧
  decode 0x6000BEEF = .error .reservedOp ∧
  decode 0x40048000 = .error .reservedField

/-- 30 R77, R79: no operand bit of a command is lost: decoding its word gives it back. -/
def Obligations.DecodeEncodeRoundTrip : Prop := ∀ i : Instr, decode (encode i) = .ok i

/-- 30 R81, R82: a word the decoder accepts is the encoding of the command it reads. -/
def Obligations.EncodeDecodeRoundTrip : Prop :=
  ∀ (c : CmdWord) (i : Instr), decode c = .ok i → encode i = c

/-- 30 R80, R81, R83: a word is reserved exactly when its OP, its RSV or a must-be-0 field says so; a reserved
word writes STATUS <- InvalidParameter and nothing else; every other word is the command of its OP, with the
operands of R83. -/
def Obligations.ReservedWordsExactly : Prop :=
  ∀ (c : CmdWord) (s : State),
    let op := c.extractLsb' 28 4
    let cnt := c.extractLsb' 16 8
    let data := c.extractLsb' 0 16
    let reserved := op = 0 ∨ 6 ≤ op.toNat ∨ c.extractLsb' 24 4 ≠ 0 ∨ (op = 1 ∧ cnt ≠ 0) ∨
      ((op = 4 ∨ op = 5) ∧ data ≠ 0)
    (reserved → (∃ e, decode c = .error e) ∧ runCommand c s = .next { s with status := 4 }) ∧
    (¬ reserved →
      (op = 1 → decode c = .ok (.crc8 (data.extractLsb' 8 8) (data.extractLsb' 0 8))) ∧
      (op = 2 → decode c = .ok (.check (data.extractLsb' 8 8) (data.extractLsb' 0 8) cnt)) ∧
      (op = 3 → decode c = .ok (.write cnt data)) ∧
      (op = 4 → decode c = .ok (.readf cnt)) ∧
      (op = 5 → decode c = .ok (.readz cnt)))

/-! ### The CRC -/

/-- 40 R104: the known vector, and the values its other readings give. -/
def Obligations.CrcKnownVector : Prop :=
  crc8 0xBE 0xEF = 0x92 ∧
  crc8 0xEF 0xBE = 0xCE ∧
  (crc8 (BitVec.reverse 0xBE#8) (BitVec.reverse 0xEF#8)).reverse = 0xF7 ∧
  (crc8 (BitVec.reverse 0xEF#8) (BitVec.reverse 0xBE#8)).reverse = 0xC1 ∧
  crcByte (crcByte 0x00 0xBE) 0xEF = 0x13 ∧
  crc8 0xBE 0xEF ^^^ 0xFF = 0x6D

/-- 40 R103 and 95 V2: the table lists the 8-shift loop, and the CRC is two look-ups. -/
def Obligations.CrcTableForm : Prop :=
  (∀ x : Byte, crcShifts 8 x = crcTable x) ∧
  ∀ b0 b1 : Byte, crc8 b0 b1 = crcTable (crcTable (0xFF ^^^ b0) ^^^ b1)

/-- 40 R105: every flip of 1, 2 or 3 bits of a valid group is detected; of the 10626 4-bit patterns 80 are not,
the same for every word. -/
def Obligations.CrcDetectsThreeBitErrors : Prop :=
  (∀ (w : Word) (k : Nat), 1 ≤ k → k ≤ 3 → ∀ is ∈ choices k (List.range 24),
    survives w (flipMask is) = false) ∧
  (choices 4 (List.range 24)).length = 10626 ∧
  (∀ w : Word, ((choices 4 (List.range 24)).filter fun is => survives w (flipMask is)).length = 80) ∧
  ∀ (v w : Word) (e : BitVec 24), survives v e = survives w e

/-- 40 R106: the CRC is a bijection in each byte, takes each value on 256 words, and is affine. -/
def Obligations.CrcAlgebra : Prop :=
  (∀ b0 : Byte, Function.Bijective fun b1 => crc8 b0 b1) ∧
  (∀ b1 : Byte, Function.Bijective fun b0 => crc8 b0 b1) ∧
  (∀ v : Byte, ((List.range 65536).filter fun n =>
    crc8 (hiByte (BitVec.ofNat 16 n)) (loByte (BitVec.ofNat 16 n)) = v).length = 256) ∧
  (∀ u v : Word, crc8 (hiByte (u ^^^ v)) (loByte (u ^^^ v)) =
    crc8 (hiByte u) (loByte u) ^^^ crc8 (hiByte v) (loByte v) ^^^ crc8 0x00 0x00) ∧
  crc8 0x00 0x00 = 0x81

/-- 40 R107: CRC8 writes CRCOUT and STATUS, and only these (the hidden `crc`, of which R107 says nothing, is left
open here: see EngineHoldsTheLastCrc); a word with RSV or CNT
not 0 writes STATUS only; the corner cases and the example. -/
def Obligations.Crc8Command : Prop :=
  (∀ (b0 b1 : Byte) (s : State), ∃ t, exec (.crc8 b0 b1) s = .next t ∧
    t = { s with crcout := crc8 b0 b1, status := 0, crc := t.crc }) ∧
  (∀ (c : CmdWord) (s : State), c.extractLsb' 28 4 = 1 →
    ((c.extractLsb' 24 4 ≠ 0 ∨ c.extractLsb' 16 8 ≠ 0) →
      runCommand c s = .next { s with status := 4 }) ∧
    ((c.extractLsb' 24 4 = 0 ∧ c.extractLsb' 16 8 = 0) →
      runCommand c s = exec (.crc8 (c.extractLsb' 8 8) (c.extractLsb' 0 8)) s)) ∧
  crc8 0x00 0x00 = 0x81 ∧ crc8 0xFF 0xFF = 0xAC ∧ crc8 0xFF 0x00 = 0x00 ∧ crc8 0xBE 0xEF = 0x92

/-- 40 R108: CHECK writes CRCOUT with the computed CRC, whether it matches or not, and STATUS <- OK exactly when
it matches, and nothing else (the hidden `crc`, of which R108 says nothing, is left open here: see
EngineHoldsTheLastCrc); a word with RSV not 0 writes STATUS only; the corner cases. -/
def Obligations.CheckCommand : Prop :=
  (∀ (b0 b1 c : Byte) (s : State), ∃ t, exec (.check b0 b1 c) s = .next t ∧
    t = { s with crcout := crc8 b0 b1, status := if c = crc8 b0 b1 then 0 else 8, crc := t.crc }) ∧
  (∀ (c : CmdWord) (s : State), c.extractLsb' 28 4 = 2 →
    (c.extractLsb' 24 4 ≠ 0 → runCommand c s = .next { s with status := 4 }) ∧
    (c.extractLsb' 24 4 = 0 → runCommand c s =
      exec (.check (c.extractLsb' 8 8) (c.extractLsb' 0 8) (c.extractLsb' 16 8)) s)) ∧
  crc8 0x00 0x00 = 0x81 ∧ crc8 0xFF 0x00 = 0x00 ∧
  ∀ (b0 b1 : Byte) (k : Nat), k < 24 →
    let g := group24 b0 b1 (crc8 b0 b1) ^^^ (1#24 <<< k)
    ∀ (s t : State),
      exec (.check (g.extractLsb' 16 8) (g.extractLsb' 8 8) (g.extractLsb' 0 8)) s = .next t →
      t.status = 8

/-- 40 R109: CHECK reports OK exactly when the byte is the CRC, and READF and READZ apply the same test to every
group they consume: a response of the right length ends with Protocol exactly when CHECK would refuse one. -/
def Obligations.CheckIsTheDecodersTest : Prop :=
  (∀ (b0 b1 c : Byte) (s : State), ∃ t, exec (.check b0 b1 c) s = .next t ∧
    (t.status = 0 ↔ c = crc8 b0 b1) ∧ (t.status = 8 ↔ c ≠ crc8 b0 b1)) ∧
  ∀ (mode : ReadMode) (n : BitVec 8) (s : State) (l : List Byte),
    2 ≤ n.toNat → n.toNat ≤ s.cfg.maxRxData → readAnswer s = .bytes l → l.length = 3 * (n.toNat / 2) →
    ∃ u, exec (readInstr mode n) s = .next u ∧
      (u.status = 8 ↔ ∃ k t, Consumed mode l (n.toNat / 2) k ∧
        exec (.check (byteAt l (3 * k)) (byteAt l (3 * k + 1)) (byteAt l (3 * k + 2))) s = .next t ∧
        t.status = 8)

/-! ### The encoder -/

/-- 41 R126, 30 R71: the length of a frame and every byte of it. -/
def Obligations.FrameLayout : Prop :=
  ∀ (op : Word) (ws : List Word),
    (frame op ws).length = 2 + 3 * ws.length ∧
    (frame op ws)[0]? = some (op.extractLsb' 8 8) ∧
    (frame op ws)[1]? = some (op.extractLsb' 0 8) ∧
    (∀ (k : Nat) (w : Word), ws[k]? = some w →
      (frame op ws)[2 + 3 * k]? = some (w.extractLsb' 8 8) ∧
      (frame op ws)[3 + 3 * k]? = some (w.extractLsb' 0 8) ∧
      (frame op ws)[4 + 3 * k]? = some (crc8 (w.extractLsb' 8 8) (w.extractLsb' 0 8))) ∧
    (∀ c : Config, c.Valid → ws.length ≤ c.maxTxWords → (frame op ws).length ≤ 254)

/-- 30 R74: how a word is split into bytes and how two bytes are joined, and that each undoes the other. -/
def Obligations.WordSplitJoin : Prop :=
  (∀ w : Word, hiByte w = w.extractLsb' 8 8 ∧ loByte w = w.extractLsb' 0 8) ∧
  (∀ hi lo : Byte, joinBytes hi lo = (hi.setWidth 16 <<< 8) ||| lo.setWidth 16) ∧
  (∀ w : Word, joinBytes (hiByte w) (loByte w) = w) ∧
  ∀ hi lo : Byte, hiByte (joinBytes hi lo) = hi ∧ loByte (joinBytes hi lo) = lo

/-- 30 R75: the two's-complement pattern of a signed parameter, the examples, and that a frame carries it like
any word. -/
def Obligations.SignedParameterPattern : Prop :=
  (∀ v : Int, -32768 ≤ v → v ≤ 32767 →
    (0 ≤ v → ((signedPattern v).toNat : Int) = v) ∧
    (v < 0 → ((signedPattern v).toNat : Int) = v + 65536) ∧ (signedPattern v).toInt = v ∧
    ((signedPattern v).toNat : Int) = v % 65536) ∧
  (∀ (op : Word) (vs : List Int) (k : Nat) (v : Int), vs[k]? = some v →
    (frame op (vs.map signedPattern))[2 + 3 * k]? = some ((signedPattern v).extractLsb' 8 8) ∧
    (frame op (vs.map signedPattern))[3 + 3 * k]? = some ((signedPattern v).extractLsb' 0 8)) ∧
  signedPattern (-1) = 0xFFFF ∧ signedPattern (-200) = 0xFF38 ∧ signedPattern (-32768) = 0x8000

/-- 41 R121: WRITE refuses the sentinel, then a word count above MAX_TX_WORDS, both without a transport call;
it faults at an unwritten word; else it keeps the frame in TXF, sets TXLEN, makes one TransportWrite of the frame to
BUSADDR, and reports its answer unchanged; and it writes no other register. A word with RSV not 0 is reserved. -/
def Obligations.WriteCommand : Prop :=
  (∀ (c : CmdWord) (s : State), c.extractLsb' 28 4 = 3 →
    (c.extractLsb' 24 4 ≠ 0 → runCommand c s = .next { s with status := 4 }) ∧
    (c.extractLsb' 24 4 = 0 → runCommand c s = exec (.write (c.extractLsb' 16 8) (c.extractLsb' 0 16)) s)) ∧
  ∀ (n : BitVec 8) (op : Word) (s : State),
    (op = 0 → ∃ t, exec (.write n op) s = .next t ∧ t.status = 2 ∧ t.txlen = 0 ∧ t.calls = s.calls) ∧
    (op ≠ 0 → s.cfg.maxTxWords < n.toNat →
      ∃ t, exec (.write n op) s = .next t ∧ t.status = 4 ∧ t.txlen = 0 ∧ t.calls = s.calls) ∧
    (op ≠ 0 → n.toNat ≤ s.cfg.maxTxWords →
      (∀ k < n.toNat, txwWritten s k = true) →
      ∃ t, exec (.write n op) s = .next t ∧
        t.txlen = BitVec.ofNat 8 (2 + 3 * n.toNat) ∧
        t.txf.take (2 + 3 * n.toNat) = frame op (txWords s n.toNat) ∧
        t.calls = s.calls ++ [.write s.busaddr (frame op (txWords s n.toNat))] ∧
        (writeAnswer s = .ok → t.status = 0) ∧
        (writeAnswer s = .error .protocol → t.status = 8) ∧
        (writeAnswer s = .error .timeout → t.status = 7) ∧
        ∀ j, 2 + 3 * n.toNat ≤ j → t.txf[j]? = s.txf[j]?) ∧
    (op ≠ 0 → n.toNat ≤ s.cfg.maxTxWords → (∃ k < n.toNat, txwWritten s k = false) →
      ∃ k < n.toNat, txwWritten s k = false ∧ exec (.write n op) s = .fault (.unwrittenTxw k)) ∧
    ∀ t, exec (.write n op) s = .next t →
      t.crcout = s.crcout ∧ t.rxd = s.rxd ∧ t.rxlen = s.rxlen ∧ t.rxq = s.rxq ∧ t.txw = s.txw ∧
      t.busaddr = s.busaddr

/-- 60 R173: a reserved word is reported before anything else is tested; within WRITE the sentinel comes before
the word count. -/
def Obligations.WriteCheckOrder : Prop :=
  (∀ (c : CmdWord) (s : State), (∃ e, decode c = .error e) →
    runCommand c s = .next { s with status := 4 }) ∧
  (∀ (n : BitVec 8) (s : State), ∃ t, exec (.write n 0x0000) s = .next t ∧ t.status = 2) ∧
  (∀ (n : BitVec 8) (op : Word) (s : State), op ≠ 0 → s.cfg.maxTxWords < n.toNat →
    ∃ t, exec (.write n op) s = .next t ∧ t.status = 4 ∧ t.calls = s.calls) ∧
  (∀ (n : BitVec 8) (op : Word) (s t : State), op ≠ 0 → n.toNat ≤ s.cfg.maxTxWords →
    exec (.write n op) s = .next t → t.status = statusCode (writeAnswerKind (writeAnswer s)))

/-- 41 R125: every encoded group passes CHECK, and READF decodes the groups of a frame to the bytes of its
words. -/
def Obligations.EncoderRoundTrip : Prop :=
  (∀ (w : Word) (s : State), ∃ t,
    exec (.check (hiByte w) (loByte w) (crc8 (hiByte w) (loByte w))) s = .next t ∧ t.status = 0) ∧
  (∀ (op : Word) (ws : List Word) (k : Nat), k < ws.length → GroupValid ((frame op ws).drop 2) k) ∧
  ∀ (op : Word) (ws : List Word) (s : State), 1 ≤ ws.length → 2 * ws.length ≤ s.cfg.maxRxData →
    2 * ws.length ≤ 255 → readAnswer s = .bytes ((frame op ws).drop 2) →
    ∃ t, exec (.readf (BitVec.ofNat 8 (2 * ws.length))) s = .next t ∧ t.status = 0 ∧
      t.rxlen.toNat = 2 * ws.length ∧
      t.rxd.take (2 * ws.length) = ws.flatMap fun w => [hiByte w, loByte w]

/-! ### The decoder -/

/-- 42 R144: READF, every outcome in the order of its checks, and what it writes; a word with RSV or DATA not 0
is reserved. -/
def Obligations.ReadfCommand : Prop :=
  (∀ (c : CmdWord) (s : State), c.extractLsb' 28 4 = 4 →
    ((c.extractLsb' 24 4 ≠ 0 ∨ c.extractLsb' 0 16 ≠ 0) → runCommand c s = .next { s with status := 4 }) ∧
    ((c.extractLsb' 24 4 = 0 ∧ c.extractLsb' 0 16 = 0) →
      runCommand c s = exec (.readf (c.extractLsb' 16 8)) s)) ∧
  ∀ (n : BitVec 8) (s : State), ∃ t, exec (.readf n) s = .next t ∧
    (¬ (2 ≤ n.toNat ∧ n.toNat ≤ s.cfg.maxRxData) → t.status = 4 ∧ t.rxlen = 0 ∧ t.calls = s.calls) ∧
    (2 ≤ n.toNat ∧ n.toNat ≤ s.cfg.maxRxData →
      t.calls = s.calls ++ [.read s.busaddr (3 * (n.toNat / 2))] ∧
      (∀ e, readAnswer s = .error e → t.status = statusCode (busErrorKind e) ∧ t.rxlen = 0) ∧
      (∀ l, readAnswer s = .bytes l → l.length ≠ 3 * (n.toNat / 2) → t.status = 8 ∧ t.rxlen = 0) ∧
      (∀ l, readAnswer s = .bytes l → l.length = 3 * (n.toNat / 2) →
        ((∃ k < n.toNat / 2, ¬ GroupValid l k) → t.status = 8 ∧ t.rxlen = 0) ∧
        ((∀ k < n.toNat / 2, GroupValid l k) →
          (n.toNat % 2 = 1 → t.status = 1 ∧ t.rxlen = 0) ∧
          (n.toNat % 2 = 0 → t.status = 0 ∧ t.rxlen = n ∧
            ∀ k < n.toNat / 2, t.rxd[2 * k]? = some (byteAt l (3 * k)) ∧
              t.rxd[2 * k + 1]? = some (byteAt l (3 * k + 1)))))) ∧
    t.rxq = [] ∧ t.crcout = s.crcout ∧ t.txlen = s.txlen ∧ t.txf = s.txf ∧ t.txw = s.txw ∧
    t.busaddr = s.busaddr

/-- 42 R145, R146: READZ, every outcome in the order of its checks: each consumed group's CRC comes before the
terminator test, the terminator is kept and counted, and DataLength is never reported; a word with RSV or DATA
not 0 is reserved. -/
def Obligations.ReadzCommand : Prop :=
  (∀ (c : CmdWord) (s : State), c.extractLsb' 28 4 = 5 →
    ((c.extractLsb' 24 4 ≠ 0 ∨ c.extractLsb' 0 16 ≠ 0) → runCommand c s = .next { s with status := 4 }) ∧
    ((c.extractLsb' 24 4 = 0 ∧ c.extractLsb' 0 16 = 0) →
      runCommand c s = exec (.readz (c.extractLsb' 16 8)) s)) ∧
  ∀ (n : BitVec 8) (s : State), ∃ t, exec (.readz n) s = .next t ∧
    (¬ (2 ≤ n.toNat ∧ n.toNat ≤ s.cfg.maxRxData) → t.status = 4 ∧ t.rxlen = 0 ∧ t.calls = s.calls) ∧
    (2 ≤ n.toNat ∧ n.toNat ≤ s.cfg.maxRxData →
      t.calls = s.calls ++ [.read s.busaddr (3 * (n.toNat / 2))] ∧
      (∀ e, readAnswer s = .error e → t.status = statusCode (busErrorKind e) ∧ t.rxlen = 0) ∧
      (∀ l, readAnswer s = .bytes l → l.length ≠ 3 * (n.toNat / 2) → t.status = 8 ∧ t.rxlen = 0) ∧
      (∀ l, readAnswer s = .bytes l → l.length = 3 * (n.toNat / 2) →
        ((∃ k, Consumed .zero l (n.toNat / 2) k ∧ ¬ GroupValid l k) → t.status = 8 ∧ t.rxlen = 0) ∧
        ((∀ k, Consumed .zero l (n.toNat / 2) k → GroupValid l k) →
          t.status = 0 ∧
          (∀ z, Consumed .zero l (n.toNat / 2) z → GroupZero l z → t.rxlen.toNat = 2 * (z + 1)) ∧
          ((∀ k < n.toNat / 2, ¬ GroupZero l k) → t.rxlen.toNat = 2 * (n.toNat / 2)) ∧
          ∀ k, Consumed .zero l (n.toNat / 2) k → t.rxd[2 * k]? = some (byteAt l (3 * k)) ∧
            t.rxd[2 * k + 1]? = some (byteAt l (3 * k + 1))))) ∧
    t.status ≠ 1 ∧ t.rxq = [] ∧ t.crcout = s.crcout ∧ t.txlen = s.txlen ∧ t.txf = s.txf ∧
    t.txw = s.txw ∧ t.busaddr = s.busaddr

/-- 42 R143: N outside 2 .. MAX_RX_DATA fails with InvalidParameter before any bus access. -/
def Obligations.ReadCountRange : Prop :=
  ∀ (mode : ReadMode) (n : BitVec 8) (s : State), ∃ t, exec (readInstr mode n) s = .next t ∧
    (n.toNat < 2 ∨ s.cfg.maxRxData < n.toNat →
      t.status = 4 ∧ t.rxlen = 0 ∧ t.calls = s.calls ∧ t.readAnswers = s.readAnswers) ∧
    (2 ≤ n.toNat → n.toNat ≤ s.cfg.maxRxData → t.status ≠ 4 ∧ t.calls.length = s.calls.length + 1)

/-- 42 R147, 10 R35: every read ends with an empty queue, uses no byte the queue held before it, and makes at
most one transport call. -/
def Obligations.ReadsDrainTheQueue : Prop :=
  ∀ (mode : ReadMode) (n : BitVec 8) (s t : State), exec (readInstr mode n) s = .next t →
    t.rxq = [] ∧ t.calls.length ≤ s.calls.length + 1 ∧
    ∀ q : List Byte, exec (readInstr mode n) { s with rxq := q } = .next t

/-- 42 R148: what a failed read leaves: RXLEN = 0, no readable RXD element, an empty queue, and every other
register as it was. -/
def Obligations.FailedReadLeaves : Prop :=
  ∀ (mode : ReadMode) (n : BitVec 8) (s t : State), exec (readInstr mode n) s = .next t →
    t.status ≠ 0 →
    t.rxlen = 0 ∧ t.rxq = [] ∧
    (∀ j < t.cfg.maxRxData, hostRead (.rxd j) t = .fault (.unspecifiedRxd j)) ∧
    t.busaddr = s.busaddr ∧ t.txw = s.txw ∧ t.crcout = s.crcout ∧ t.txlen = s.txlen ∧ t.txf = s.txf

/-- 42 R150, 20 R53: a successful read's output is the data bytes in wire order, every third byte removed;
RXLEN is even, and data word k is the joined bytes 3k and 3k + 1 of the response. -/
def Obligations.ReadOutputIsTheDataBytes : Prop :=
  ∀ (mode : ReadMode) (n : BitVec 8) (s t : State), exec (readInstr mode n) s = .next t →
    t.status = 0 →
    ∃ l, readAnswer s = .bytes l ∧ t.rxlen.toNat % 2 = 0 ∧
      ∀ k < t.rxlen.toNat / 2,
        t.rxd[2 * k]? = some (byteAt l (3 * k)) ∧ t.rxd[2 * k + 1]? = some (byteAt l (3 * k + 1)) ∧
        dataWord t k = joinBytes (byteAt l (3 * k)) (byteAt l (3 * k + 1)) ∧
        signedDataWord t k = (joinBytes (byteAt l (3 * k)) (byteAt l (3 * k + 1))).toInt

/-- 42 R149: 1 to 3 flipped bits in one valid group that a read consumes end it with Protocol; changes confined
to the groups after a zero-mode terminator change nothing. -/
def Obligations.CorruptionIsDetected : Prop :=
  (∀ (mode : ReadMode) (n : BitVec 8) (s : State) (l l' : List Byte) (g m : Nat) (is : List Nat),
    2 ≤ n.toNat → n.toNat ≤ s.cfg.maxRxData →
    l.length = 3 * (n.toNat / 2) → l'.length = l.length → readAnswer s = .bytes l' →
    Consumed mode l (n.toNat / 2) g → GroupValid l g →
    1 ≤ m → m ≤ 3 → is ∈ choices m (List.range 24) →
    group24 (byteAt l' (3 * g)) (byteAt l' (3 * g + 1)) (byteAt l' (3 * g + 2)) =
      group24 (byteAt l (3 * g)) (byteAt l (3 * g + 1)) (byteAt l (3 * g + 2)) ^^^ flipMask is →
    (∀ i, i < 3 * g ∨ 3 * g + 3 ≤ i → byteAt l' i = byteAt l i) →
    ∃ t, exec (readInstr mode n) s = .next t ∧ t.status = 8) ∧
  ∀ (n : BitVec 8) (s : State) (l l' : List Byte) (z : Nat),
    n.toNat ≤ s.cfg.maxRxData → l'.length = l.length → Consumed .zero l (n.toNat / 2) z → GroupZero l z →
    (∀ i < 3 * (z + 1), byteAt l' i = byteAt l i) →
    exec (.readz n) { s with readAnswers := .bytes l' :: s.readAnswers } =
      exec (.readz n) { s with readAnswers := .bytes l :: s.readAnswers }

/-- 42 R151: the corner cases of the length rules. -/
def Obligations.LengthCornerCases : Prop :=
  (∀ mode s, 2 ≤ s.cfg.maxRxData → ∃ t, exec (readInstr mode 2) s = .next t ∧
    t.calls = s.calls ++ [.read s.busaddr 3]) ∧
  (∀ s l, 5 ≤ s.cfg.maxRxData → readAnswer s = .bytes l → l.length = 6 →
    GroupValid l 0 → GroupValid l 1 →
    (∃ t, exec (.readf 5) s = .next t ∧ t.calls = s.calls ++ [.read s.busaddr 6] ∧ t.status = 1) ∧
    ∃ t, exec (.readz 5) s = .next t ∧ t.calls = s.calls ++ [.read s.busaddr 6] ∧ t.status = 0 ∧
      t.rxlen.toNat ≤ 4) ∧
  (∀ mode (n : BitVec 8) s, 2 ≤ n.toNat → n.toNat ≤ s.cfg.maxRxData →
    ∃ t, exec (readInstr mode n) s = .next t ∧ t.status ≠ 4 ∧
      (readAnswer s = .bytes [] → t.status = 8 ∧ t.rxlen = 0) ∧
      (∀ l, readAnswer s = .bytes l → l.length = 3 * (n.toNat / 2) + 3 → t.status = 8 ∧ t.rxlen = 0) ∧
      (∀ e, readAnswer s = .error e → t.status = statusCode (busErrorKind e) ∧ t.rxlen = 0)) ∧
  (∀ mode (n : BitVec 8) s, n.toNat = s.cfg.maxRxData + 1 →
    ∃ t, exec (readInstr mode n) s = .next t ∧ t.status = 4 ∧ t.calls = s.calls)

/-- 42 R152: a zero-terminated read whose first {0,0} group is at index z before the last: OK, RXLEN = 2(z + 1),
the bytes after the terminator discarded, the queue empty. -/
def Obligations.ZeroTerminatedScenario : Prop :=
  ∀ (n : BitVec 8) (s : State) (l : List Byte) (z : Nat),
    2 ≤ n.toNat → n.toNat ≤ s.cfg.maxRxData → readAnswer s = .bytes l →
    l.length = 3 * (n.toNat / 2) → z + 1 < n.toNat / 2 →
    (∀ k ≤ z, GroupValid l k) → (∀ k < z, ¬ GroupZero l k) → GroupZero l z →
    ∃ t, exec (.readz n) s = .next t ∧ t.status = 0 ∧ t.rxlen.toNat = 2 * (z + 1) ∧ t.rxq = [] ∧
      (runGroups .zero s.crc l).left = l.drop (3 * (z + 1)) ∧
      (runGroups .zero s.crc l).left.length = 3 * (n.toNat / 2 - z - 1)

/-! ### STATUS and the result registers -/

/-- 60 R170: the code of each kind. -/
def Obligations.StatusCodes : Prop :=
  statusCode .ok = 0 ∧ statusCode .dataLength = 1 ∧ statusCode .unknownCommand = 2 ∧
  statusCode .accessRight = 3 ∧ statusCode .invalidParameter = 4 ∧ statusCode .outOfRange = 5 ∧
  statusCode .commandNotAllowedInState = 6 ∧ statusCode .timeout = 7 ∧ statusCode .protocol = 8 ∧
  statusCode .firmwareTooOld = 9

/-- 60 R171: after any command STATUS is 0, 1, 2, 4, 7 or 8, whatever it was before. -/
def Obligations.StatusAlwaysLegal : Prop :=
  ∀ (c : CmdWord) (s t : State), runCommand c s = .next t → LegalStatus t.status

/-- 10 R24, 60 R178: a command's outcome does not depend on STATUS, so every command overwrites it; a host write
to STATUS is ignored. -/
def Obligations.StatusIsOverwritten : Prop :=
  (∀ (c : CmdWord) (s : State) (v : BitVec 4), runCommand c { s with status := v } = runCommand c s) ∧
  ∀ (v : BitVec 32) (s : State), hostWrite .status v s = .next s

/-- 60 R172: which commands, in which states, report each status that is a failure. -/
def Obligations.StatusCauses : Prop :=
  ∀ (c : CmdWord) (s t : State), runCommand c s = .next t →
    (t.status = 4 ↔ (∃ e, decode c = .error e) ∨
      (∃ n op, decode c = .ok (.write n op) ∧ op ≠ 0 ∧ s.cfg.maxTxWords < n.toNat) ∨
      ∃ mode n, decode c = .ok (readInstr mode n) ∧ (n.toNat < 2 ∨ s.cfg.maxRxData < n.toNat)) ∧
    (t.status = 2 ↔ ∃ n, decode c = .ok (.write n 0x0000)) ∧
    (t.status = 8 ↔ (∃ b0 b1 g, decode c = .ok (.check b0 b1 g) ∧ g ≠ crc8 b0 b1) ∨
      (∃ n op, decode c = .ok (.write n op) ∧ op ≠ 0 ∧ n.toNat ≤ s.cfg.maxTxWords ∧
        writeAnswer s = .error .protocol) ∨
      ∃ mode n, decode c = .ok (readInstr mode n) ∧ 2 ≤ n.toNat ∧ n.toNat ≤ s.cfg.maxRxData ∧
        (readAnswer s = .error .protocol ∨ ∃ l, readAnswer s = .bytes l ∧
          (l.length ≠ 3 * (n.toNat / 2) ∨ ∃ k, Consumed mode l (n.toNat / 2) k ∧ ¬ GroupValid l k))) ∧
    (t.status = 1 ↔ ∃ n l, decode c = .ok (.readf n) ∧ 2 ≤ n.toNat ∧ n.toNat ≤ s.cfg.maxRxData ∧
      n.toNat % 2 = 1 ∧ readAnswer s = .bytes l ∧ l.length = 3 * (n.toNat / 2) ∧
      ∀ k < n.toNat / 2, GroupValid l k) ∧
    (t.status = 7 ↔
      (∃ n op, decode c = .ok (.write n op) ∧ op ≠ 0 ∧ n.toNat ≤ s.cfg.maxTxWords ∧
        writeAnswer s = .error .timeout) ∨
      ∃ mode n, decode c = .ok (readInstr mode n) ∧ 2 ≤ n.toNat ∧ n.toNat ≤ s.cfg.maxRxData ∧
        readAnswer s = .error .timeout)

/-- 10 R25: CRCOUT is written by CRC8 and CHECK only, with the CRC of their bytes, and by no host write. -/
def Obligations.CrcoutIsWrittenByCrcCommands : Prop :=
  (∀ (c : CmdWord) (s t : State), runCommand c s = .next t →
    (∀ b0 b1, decode c = .ok (.crc8 b0 b1) → t.crcout = crc8 b0 b1) ∧
    (∀ b0 b1 g, decode c = .ok (.check b0 b1 g) → t.crcout = crc8 b0 b1) ∧
    ((∀ b0 b1, decode c ≠ .ok (.crc8 b0 b1)) → (∀ b0 b1 g, decode c ≠ .ok (.check b0 b1 g)) →
      t.crcout = s.crcout)) ∧
  ∀ (v : BitVec 32) (s : State), hostWrite .crcout v s = .next s

/-- 10 R26: TXLEN is 2 + 3n after a WRITE that passes its checks, whatever the transport answers, 0 after one
that fails them, and unchanged by every other command, by a reserved word and by a host write. -/
def Obligations.TxlenRule : Prop :=
  (∀ (v : BitVec 32) (s : State), hostWrite .txlen v s = .next s) ∧
  ∀ (c : CmdWord) (s t : State), s.cfg.Valid → runCommand c s = .next t →
    (∀ n op, decode c = .ok (.write n op) →
      t.txlen.toNat = if op = 0 ∨ s.cfg.maxTxWords < n.toNat then 0 else 2 + 3 * n.toNat) ∧
    ((∀ n op, decode c ≠ .ok (.write n op)) → t.txlen = s.txlen)

/-- 10 R27: a WRITE that passes its checks writes its frame to TXF[0 .. TXLEN−1] and no other element; after one
that fails them no TXF element can be read; an element at or above TXLEN is never readable; a host write changes none. -/
def Obligations.TxfRule : Prop :=
  (∀ (n : BitVec 8) (op : Word) (s t : State), s.cfg.Valid → exec (.write n op) s = .next t →
    (op ≠ 0 → n.toNat ≤ s.cfg.maxTxWords →
      t.txf.take t.txlen.toNat = frame op (txWords s n.toNat) ∧
      ∀ j, t.txlen.toNat ≤ j → t.txf[j]? = s.txf[j]?) ∧
    (op = 0 ∨ s.cfg.maxTxWords < n.toNat →
      ∀ j < t.cfg.txfSize, hostRead (.txf j) t = .fault (.unspecifiedTxf j))) ∧
  ∀ (s : State) (j : Nat), j < s.cfg.txfSize →
    (s.txlen.toNat ≤ j → hostRead (.txf j) s = .fault (.unspecifiedTxf j)) ∧
    ∀ v : BitVec 32, hostWrite (.txf j) v s = .next s

/-- 10 R28: RXLEN counts the bytes a successful read assembled, is 0 after any other read, and is left alone by
every other command, by a reserved word and by a host write. -/
def Obligations.RxlenRule : Prop :=
  (∀ (v : BitVec 32) (s : State), hostWrite .rxlen v s = .next s) ∧
  ∀ (c : CmdWord) (s t : State), runCommand c s = .next t →
    (∀ mode n, decode c = .ok (readInstr mode n) →
      (t.status ≠ 0 → t.rxlen = 0) ∧
      (t.status = 0 → ∃ l, readAnswer s = .bytes l ∧
        t.rxlen.toNat = (runGroups mode s.crc l).out.length)) ∧
    ((∀ mode n, decode c ≠ .ok (readInstr mode n)) → t.rxlen = s.rxlen)

/-- 10 R38: the write set of each command: nothing but the listed registers, `crc` and `rxq`, and the record of
the transport call changes; within TXF and RXD only the elements below the length written. -/
def Obligations.CommandWriteSets : Prop :=
  (∀ b0 b1 s t, exec (.crc8 b0 b1) s = .next t →
    t = { s with status := t.status, crcout := t.crcout, crc := t.crc }) ∧
  (∀ b0 b1 c s t, exec (.check b0 b1 c) s = .next t →
    t = { s with status := t.status, crcout := t.crcout, crc := t.crc }) ∧
  (∀ n op s t, exec (.write n op) s = .next t →
    t = { s with
          status := t.status, txlen := t.txlen, txf := t.txf, crc := t.crc, calls := t.calls
          writeAnswers := t.writeAnswers, free := t.free } ∧
    (s.cfg.Valid → t.txlen ≠ 0 → ∀ j, t.txlen.toNat ≤ j → t.txf[j]? = s.txf[j]?)) ∧
  (∀ mode n s t, exec (readInstr mode n) s = .next t →
    t = { s with
          status := t.status, rxlen := t.rxlen, rxd := t.rxd, crc := t.crc, rxq := t.rxq
          calls := t.calls, readAnswers := t.readAnswers, free := t.free } ∧
    (t.status = 0 → ∀ j, t.rxlen.toNat ≤ j → t.rxd[j]? = s.rxd[j]?)) ∧
  ∀ c s t, (∃ e, decode c = .error e) → runCommand c s = .next t → t = { s with status := t.status }

/-! ### The host's side -/

/-- 10 R22: a host write of BUSADDR keeps bits [6:0], a read returns them, every transport call of a command goes
to BUSADDR, and no command's STATUS depends on which address it is. -/
def Obligations.BusaddrRule : Prop :=
  (∀ (v : BitVec 32) (s : State),
    hostWrite .busaddr v s = .next { s with busaddr := v.extractLsb' 0 7 }) ∧
  (∀ s : State, hostRead .busaddr s = .next { s with readData := s.busaddr.setWidth 32 }) ∧
  (∀ (c : CmdWord) (s t : State), runCommand c s = .next t → t.busaddr = s.busaddr ∧
    (t.calls = s.calls ∨ (∃ f, t.calls = s.calls ++ [.write s.busaddr f]) ∨
      ∃ k, t.calls = s.calls ++ [.read s.busaddr k])) ∧
  ∀ (c : CmdWord) (s t : State) (a : BusAddr), runCommand c s = .next t →
    ∃ u, runCommand c { s with busaddr := a } = .next u ∧ u.status = t.status

/-- 10 R20, R36: a host write to a read-only register has no effect, an index outside its array is refused, a
read changes no register, and it returns the value the register holds, for each register that can be read. Where the
value returned is put (`readData`, zero-extended) is the model's choice, log entry 4. -/
def Obligations.HostAccessRules : Prop :=
  (∀ (r : Reg) (v : BitVec 32) (s : State), RegExists s.cfg r →
    (r ≠ .cmd ∧ r ≠ .busaddr ∧ ∀ i, r ≠ .txw i) → hostWrite r v s = .next s) ∧
  (∀ (r : Reg) (v : BitVec 32) (s : State), ¬ RegExists s.cfg r →
    hostWrite r v s = .refused (.noSuchRegister r) ∧ hostRead r s = .refused (.noSuchRegister r)) ∧
  (∀ (r : Reg) (s t : State), hostRead r s = .next t → t = { s with readData := t.readData }) ∧
  ∀ s : State,
    hostRead .busaddr s = .next { s with readData := s.busaddr.setWidth 32 } ∧
    hostRead .status s = .next { s with readData := s.status.setWidth 32 } ∧
    hostRead .crcout s = .next { s with readData := s.crcout.setWidth 32 } ∧
    hostRead .txlen s = .next { s with readData := s.txlen.setWidth 32 } ∧
    hostRead .rxlen s = .next { s with readData := s.rxlen.setWidth 32 } ∧
    (∀ i < s.cfg.maxTxWords, txwWritten s i = true →
      hostRead (.txw i) s = .next { s with readData := (txwValue s i).setWidth 32 }) ∧
    (∀ (j : Nat) (b : Byte), j < s.cfg.txfSize → j < s.txlen.toNat → s.txf[j]? = some b →
      hostRead (.txf j) s = .next { s with readData := b.setWidth 32 }) ∧
    ∀ (j : Nat) (b : Byte), j < s.cfg.maxRxData → j < s.rxlen.toNat → s.rxd[j]? = some b →
      hostRead (.rxd j) s = .next { s with readData := b.setWidth 32 }

/-- 10 R37: reading an element that holds no defined value faults, as does a WRITE that reaches an unwritten
word; after a WRITE that fails its checks (R27) every TXF element is such, after a failed read every RXD element. -/
def Obligations.UndefinedElementsFault : Prop :=
  (∀ (s : State) (i : Nat), i < s.cfg.maxTxWords → txwWritten s i = false →
    hostRead (.txw i) s = .fault (.unwrittenTxw i)) ∧
  (∀ (s : State) (j : Nat), j < s.cfg.txfSize → s.txlen.toNat ≤ j →
    hostRead (.txf j) s = .fault (.unspecifiedTxf j)) ∧
  (∀ (s : State) (j : Nat), j < s.cfg.maxRxData → s.rxlen.toNat ≤ j →
    hostRead (.rxd j) s = .fault (.unspecifiedRxd j)) ∧
  (∀ (n : BitVec 8) (op : Word) (s t : State), op = 0 ∨ s.cfg.maxTxWords < n.toNat →
    exec (.write n op) s = .next t → ∀ j < t.cfg.txfSize, hostRead (.txf j) t = .fault (.unspecifiedTxf j)) ∧
  (∀ (mode : ReadMode) (n : BitVec 8) (s t : State), exec (readInstr mode n) s = .next t → t.status ≠ 0 →
    ∀ j < t.cfg.maxRxData, hostRead (.rxd j) t = .fault (.unspecifiedRxd j)) ∧
  ∀ (n : BitVec 8) (op : Word) (s : State), op ≠ 0 → n.toNat ≤ s.cfg.maxTxWords →
    (∃ k < n.toNat, txwWritten s k = false) →
    ∃ k < n.toNat, txwWritten s k = false ∧ exec (.write n op) s = .fault (.unwrittenTxw k)

/-- 10 R23, R25, R36: a word written to TXW is read back, the other words and every other register stay, and no
command changes TXW. -/
def Obligations.TxwHoldsWhatTheHostWrote : Prop :=
  (∀ (s : State) (i : Nat) (w : Word), i < s.cfg.maxTxWords → s.txw.length = s.cfg.maxTxWords →
    ∃ t, hostWrite (.txw i) (w.setWidth 32) s = .next t ∧ t = { s with txw := t.txw } ∧
      hostRead (.txw i) t = .next { t with readData := w.setWidth 32 } ∧
      ∀ k, k ≠ i → txwValue t k = txwValue s k ∧ txwWritten t k = txwWritten s k) ∧
  ∀ (c : CmdWord) (s t : State), runCommand c s = .next t → t.txw = s.txw

/-- 10 R39, 70 R200: the values the spec gives after reset, for every instance and for the reset input in any
state; TXW, TXF and RXD hold nothing readable; reset makes no transport call and keeps the parameters. -/
def Obligations.ResetValues : Prop :=
  (∀ c : Config,
    let r := State.resetOf c
    r.cfg = c ∧ r.busaddr = 0x00 ∧ r.status = 0 ∧ r.crcout = 0x00 ∧ r.txlen = 0 ∧ r.rxlen = 0 ∧
      r.rxq = [] ∧ (∀ i < c.maxTxWords, hostRead (.txw i) r = .fault (.unwrittenTxw i)) ∧
      (∀ j < c.txfSize, hostRead (.txf j) r = .fault (.unspecifiedTxf j)) ∧
      ∀ j < c.maxRxData, hostRead (.rxd j) r = .fault (.unspecifiedRxd j)) ∧
  ∀ s : State, ∃ t, hostAccess .reset s = .next t ∧
    t.cfg = s.cfg ∧ t.busaddr = 0x00 ∧ t.status = 0 ∧ t.crcout = 0x00 ∧ t.txlen = 0 ∧ t.rxlen = 0 ∧
    t.rxq = [] ∧ t.calls = s.calls ∧
    (∀ i < s.cfg.maxTxWords, hostRead (.txw i) t = .fault (.unwrittenTxw i)) ∧
    (∀ j < s.cfg.txfSize, hostRead (.txf j) t = .fault (.unspecifiedTxf j)) ∧
    ∀ j < s.cfg.maxRxData, hostRead (.rxd j) t = .fault (.unspecifiedRxd j)

/-! ### Whole-machine rules -/

/-- 10 R40: no step changes the parameters. -/
def Obligations.ParametersNeverChange : Prop :=
  ∀ s t : State, step s = .next t → t.cfg = s.cfg

/-- 20 R57, R62: a step makes at most one transport call, added after the earlier ones: WRITE one whole frame,
a read one request of 3·(N div 2) bytes; CRC8, CHECK, reserved words and commands that fail their checks none.
Each call takes exactly one of the transport's coming answers, and one that finds none waiting draws anew (93 U11).
That the answers stand in two lists, and then in free functions of a counter, is the model's choice, log entry 2. -/
def Obligations.TransportCallsPerCommand : Prop :=
  (∀ (c : CmdWord) (s t : State), runCommand c s = .next t →
    t.calls = s.calls ++
      match decode c with
      | .ok (.write n op) =>
        if op ≠ 0 ∧ n.toNat ≤ s.cfg.maxTxWords then
          [.write s.busaddr (frame op (txWords s n.toNat))] else []
      | .ok (.readf n) =>
        if 2 ≤ n.toNat ∧ n.toNat ≤ s.cfg.maxRxData then
          [.read s.busaddr (3 * (n.toNat / 2))] else []
      | .ok (.readz n) =>
        if 2 ≤ n.toNat ∧ n.toNat ≤ s.cfg.maxRxData then
          [.read s.busaddr (3 * (n.toNat / 2))] else []
      | _ => []) ∧
  (∀ (c : CmdWord) (s t : State), runCommand c s = .next t →
    (t.writeAnswers = match decode c with
      | .ok (.write n op) =>
        if op ≠ 0 ∧ n.toNat ≤ s.cfg.maxTxWords then s.writeAnswers.tail else s.writeAnswers
      | _ => s.writeAnswers) ∧
    (t.readAnswers = match decode c with
      | .ok (.readf n) =>
        if 2 ≤ n.toNat ∧ n.toNat ≤ s.cfg.maxRxData then s.readAnswers.tail else s.readAnswers
      | .ok (.readz n) =>
        if 2 ≤ n.toNat ∧ n.toNat ≤ s.cfg.maxRxData then s.readAnswers.tail else s.readAnswers
      | _ => s.readAnswers) ∧
    (t.calls ≠ s.calls → s.free < t.free)) ∧
  ∀ s t : State, step s = .next t →
    t.calls = s.calls ∨ ∃ call, t.calls = s.calls ++ [call]

/-- 20 R59: a repeated CRC8 or CHECK changes nothing more. -/
def Obligations.CrcCommandsRepeat : Prop :=
  (∀ b0 b1 s t, exec (.crc8 b0 b1) s = .next t → exec (.crc8 b0 b1) t = .next t) ∧
  ∀ b0 b1 c s t, exec (.check b0 b1 c) s = .next t → exec (.check b0 b1 c) t = .next t

/-- 20 R66: what a command does is settled by its word, TXW, BUSADDR, the parameters and the transport: no
result register of an earlier command has a part in it, and no command writes TXW or BUSADDR. -/
def Obligations.CommandsReadOnlyTheirInputs : Prop :=
  (∀ (i : Instr) (s t : State), s.cfg = t.cfg → s.busaddr = t.busaddr → s.txw = t.txw →
    s.writeAnswers = t.writeAnswers → s.readAnswers = t.readAnswers → s.free = t.free →
    SameOutcome (fun u v => u.status = v.status ∧
        (∃ new, u.calls = s.calls ++ new ∧ v.calls = t.calls ++ new) ∧
        match i with
        | .crc8 _ _ => u.crcout = v.crcout
        | .check _ _ _ => u.crcout = v.crcout
        | .write _ _ => u.txlen = v.txlen ∧ u.txf.take u.txlen.toNat = v.txf.take v.txlen.toNat
        | .readf _ => u.rxlen = v.rxlen ∧ u.rxd.take u.rxlen.toNat = v.rxd.take v.rxlen.toNat
        | .readz _ => u.rxlen = v.rxlen ∧ u.rxd.take u.rxlen.toNat = v.rxd.take v.rxlen.toNat)
      (exec i s) (exec i t)) ∧
  ∀ (i : Instr) (s t : State), exec i s = .next t → t.txw = s.txw ∧ t.busaddr = s.busaddr

/-- 10 R21, R36, R37, 20 R58, 70 R204: a step answers a next state exactly when its access is safe; in particular
only a WRITE that reaches an unwritten word stops a command. That 'a model refuses it' (R21, R36) is a stop of the
step is the model's reading, log entry 10; that a command with a transport call completes rests on log entry 2 (every
call returns, decision D18). -/
def Obligations.StepCompletesExactlyWhenSafe : Prop :=
  ∀ (s : State) (a : HostAccess) (rest : List HostAccess), s.hostq = a :: rest →
    ((∃ t, step s = .next t) ↔ SafeAccess a s)

/-- The invariant of `State.Inv` holds after reset, for every valid instance, and State.reset is one of them: that
it is the sample instance of spec/95 is the model's choice, log entry 9. -/
def Obligations.InvariantHoldsAtReset : Prop :=
  (∀ c : Config, c.Valid → (State.resetOf c).Inv) ∧
  State.reset = State.resetOf Config.sample ∧ State.reset.Inv

/-- Every step keeps `State.Inv`: among others, `rxq` is empty between commands (10 R35), STATUS is a legal code
(60 R171), TXF holds a frame (10 R27), RXLEN is even (42 R150), and every frame on the bus is well formed and carries no
sentinel (70 R207, 30 R71). -/
def Obligations.StepKeepsInvariant : Prop :=
  ∀ s t : State, s.Inv → step s = .next t → t.Inv

/-- 10 R34, R37: states that differ only where nothing is defined or visible cannot be told apart: each step
gives the same stop, or next states that again differ only there. -/
def Obligations.UndefinedValuesAreUnobservable : Prop :=
  ∀ s t : State, Indistinguishable s t → SameOutcome Indistinguishable (step s) (step t)

/-! ### The assembler -/

/-- 30 R85, R86: a line whose operands fit their fields assembles to the accesses the tables give it; one whose
operand does not fit is rejected. The model's choices of log entry 11 in it: BUSADDR takes any 32-bit value, a range of
reads stands for its elements' reads and is rejected when it runs down or is not of one array, and a blank line
stands for none. -/
def Obligations.AssembledWords : Prop :=
  (∀ b0 b1 : Nat, assemble (.crc8 b0 b1) = if b0 < 256 ∧ b1 < 256 then
    some [.write .cmd (encode (.crc8 (BitVec.ofNat 8 b0) (BitVec.ofNat 8 b1)))] else none) ∧
  (∀ b0 b1 c : Nat, assemble (.check b0 b1 c) = if b0 < 256 ∧ b1 < 256 ∧ c < 256 then
    some [.write .cmd (encode (.check (BitVec.ofNat 8 b0) (BitVec.ofNat 8 b1) (BitVec.ofNat 8 c)))]
      else none) ∧
  (∀ n op : Nat, assemble (.write n op) = if n < 256 ∧ op < 65536 then
    some [.write .cmd (encode (.write (BitVec.ofNat 8 n) (BitVec.ofNat 16 op)))] else none) ∧
  (∀ n : Nat, assemble (.readf n) = if n < 256 then
    some [.write .cmd (encode (.readf (BitVec.ofNat 8 n)))] else none) ∧
  (∀ n : Nat, assemble (.readz n) = if n < 256 then
    some [.write .cmd (encode (.readz (BitVec.ofNat 8 n)))] else none) ∧
  (∀ op : Nat, assemble (.send op) = assemble (.write 0 op)) ∧
  (∀ (op : Nat) (ws : List Nat), assemble (.writew op ws) =
    if op < 65536 ∧ ws.length < 256 ∧ ∀ w ∈ ws, w < 65536 then
      some ((ws.mapIdx fun i w => .write (.txw i) (BitVec.ofNat 32 w)) ++
        [.write .cmd (encode (.write (BitVec.ofNat 8 ws.length) (BitVec.ofNat 16 op)))]) else none) ∧
  (∀ (op : Nat) (vs : List Int), assemble (.writes op vs) =
    if ∀ v ∈ vs, -32768 ≤ v ∧ v ≤ 32767 then
      assemble (.writew op (vs.map fun v => (v % 65536).toNat)) else none) ∧
  (∀ b0 b1 c : Nat, assemble (.verify b0 b1 c) = assemble (.check b0 b1 c)) ∧
  (∀ n : Nat, assemble (.readstr n) = assemble (.readz n)) ∧
  (∀ v : Nat, assemble (.setBusaddr v) = if v < 2 ^ 32 then
    some [.write .busaddr (BitVec.ofNat 32 v)] else none) ∧
  (∀ i v : Nat, assemble (.setTxw i v) = if v < 65536 then
    some [.write (.txw i) (BitVec.ofNat 32 v)] else none) ∧
  (∀ v : Nat, assemble (.setCmd v) = if v < 2 ^ 32 then
    some [.write .cmd (BitVec.ofNat 32 v)] else none) ∧
  (∀ r : Reg, assemble (.readReg r) = some [.read r]) ∧
  (∀ i k : Nat,
    assemble (.readRange (.txw i) (.txw (i + k))) =
      some ((List.range (k + 1)).map fun m => .read (.txw (i + m))) ∧
    assemble (.readRange (.txf i) (.txf (i + k))) =
      some ((List.range (k + 1)).map fun m => .read (.txf (i + m))) ∧
    assemble (.readRange (.rxd i) (.rxd (i + k))) =
      some ((List.range (k + 1)).map fun m => .read (.rxd (i + m)))) ∧
  (∀ lo hi : Reg, lo.isRange hi = false → assemble (.readRange lo hi) = none) ∧
  (∀ lo hi : Reg, lo.isRange hi = true ↔
    ∃ i k, (lo = .txw i ∧ hi = .txw (i + k)) ∨ (lo = .txf i ∧ hi = .txf (i + k)) ∨
      (lo = .rxd i ∧ hi = .rxd (i + k))) ∧
  assemble .blank = some []

/-- 30 R86: `writew op, ...` run from any state of the invariant loads its words and sends their frame in one
TransportWrite; `writes` does the same with the two's-complement patterns. -/
def Obligations.WritewSendsItsFrame : Prop :=
  ∀ (s : State) (op : Nat) (ws : List Word), s.Inv → 0 < op → op < 65536 →
    ws.length ≤ s.cfg.maxTxWords →
    (s.hostq = expand (.writew op (ws.map BitVec.toNat)) ∨
      s.hostq = expand (.writes op (ws.map BitVec.toInt))) →
    ∃ t, Host.Core.run Sys2Proof.core (ws.length + 1) s = .next t ∧ t.hostq = [] ∧
      t.calls = s.calls ++ [.write s.busaddr (frame (BitVec.ofNat 16 op) ws)] ∧
      t.txlen.toNat = 2 + 3 * ws.length

/-- 00 R16: every read length the spec lists, the concentration read's among them, is even and legal in every
valid instance. -/
def Obligations.ListedReadLengthsAreLegal : Prop :=
  (∀ (r : ReadSet) (v : Fin 5) (n : Nat) (c : Config), readLength r v = some n → c.Valid →
    2 ≤ n ∧ n ≤ c.maxRxData ∧ n % 2 = 0) ∧
  ∀ (reducedSet : Bool) (c : Config), c.Valid →
    2 ≤ (concentrationRead reducedSet).1 ∧ (concentrationRead reducedSet).1 ≤ c.maxRxData ∧
      (concentrationRead reducedSet).1 % 2 = 0

/-! ### Added after the first review -/

/-- 10 R36, 20 R62, 70 R200: a step does the host's next access, whatever it is, on the state with that access
taken: a register write, a register read or reset. The model's choices in it: the coming accesses are a list of the
state (log entry 1), reset keeps the inputs and records beside the parameters (log entry 19), and `State.resetOf`
fills TXW, TXF, RXD and `crc`, which R39 and R200 leave unspecified, with zeros (log entry 6). -/
def Obligations.StepDoesTheNextAccess : Prop :=
  ∀ (s : State) (rest : List HostAccess),
    (∀ a, s.hostq = a :: rest → step s = hostAccess a { s with hostq := rest }) ∧
    (∀ r v, s.hostq = .write r v :: rest → step s = hostWrite r v { s with hostq := rest }) ∧
    (∀ r, s.hostq = .read r :: rest → step s = hostRead r { s with hostq := rest }) ∧
    (s.hostq = .reset :: rest →
      step s = .next { State.resetOf s.cfg with
        hostq := rest, writeAnswers := s.writeAnswers, readAnswers := s.readAnswers
        calls := s.calls, readData := s.readData, free := s.free })

/-- 10 R34: the hidden `crc` holds the CRC of the last group a command computed. Which group is last is the model's
reading, log entry 12 (93 U7: no rule reads `crc` between commands). -/
def Obligations.EngineHoldsTheLastCrc : Prop :=
  (∀ b0 b1 s t, exec (.crc8 b0 b1) s = .next t → t.crc = crc8 b0 b1 ∧ t.crcout = t.crc) ∧
  (∀ b0 b1 c s t, exec (.check b0 b1 c) s = .next t → t.crc = crc8 b0 b1 ∧ t.crcout = t.crc) ∧
  (∀ (n : BitVec 8) (op : Word) (s t : State), exec (.write n op) s = .next t →
    (op ≠ 0 ∧ n.toNat ≤ s.cfg.maxTxWords ∧ n ≠ 0 → t.crc =
      crc8 (hiByte (txwValue s (n.toNat - 1))) (loByte (txwValue s (n.toNat - 1)))) ∧
    (op = 0 ∨ s.cfg.maxTxWords < n.toNat ∨ n = 0 → t.crc = s.crc)) ∧
  ∀ (mode : ReadMode) (n : BitVec 8) (s t : State), exec (readInstr mode n) s = .next t →
    t.status = 0 → 2 ≤ t.rxlen.toNat ∧
      t.crc = crc8 (byteAt t.rxd (t.rxlen.toNat - 2)) (byteAt t.rxd (t.rxlen.toNat - 1))
end

