-- ==== Sys2Proof/Laws/State.lean ====
section
/-! SUPPORT. What each update of the state does to each field, once, so that no proof unfolds a record update. -/

namespace Sys2Proof.Machine

variable (s : State)

/-! `raise` writes STATUS only (00 R13). -/

@[simp] theorem raise_cfg (k : Kind) : (raise k s).cfg = s.cfg := rfl
@[simp] theorem raise_busaddr (k : Kind) : (raise k s).busaddr = s.busaddr := rfl
@[simp] theorem raise_txw (k : Kind) : (raise k s).txw = s.txw := rfl
@[simp] theorem raise_status (k : Kind) : (raise k s).status = statusCode k := rfl
@[simp] theorem raise_crcout (k : Kind) : (raise k s).crcout = s.crcout := rfl
@[simp] theorem raise_txlen (k : Kind) : (raise k s).txlen = s.txlen := rfl
@[simp] theorem raise_txf (k : Kind) : (raise k s).txf = s.txf := rfl
@[simp] theorem raise_rxlen (k : Kind) : (raise k s).rxlen = s.rxlen := rfl
@[simp] theorem raise_rxd (k : Kind) : (raise k s).rxd = s.rxd := rfl
@[simp] theorem raise_crc (k : Kind) : (raise k s).crc = s.crc := rfl
@[simp] theorem raise_rxq (k : Kind) : (raise k s).rxq = s.rxq := rfl
@[simp] theorem raise_hostq (k : Kind) : (raise k s).hostq = s.hostq := rfl
@[simp] theorem raise_writeAnswers (k : Kind) : (raise k s).writeAnswers = s.writeAnswers := rfl
@[simp] theorem raise_readAnswers (k : Kind) : (raise k s).readAnswers = s.readAnswers := rfl
@[simp] theorem raise_calls (k : Kind) : (raise k s).calls = s.calls := rfl
@[simp] theorem raise_readData (k : Kind) : (raise k s).readData = s.readData := rfl
@[simp] theorem raise_free (k : Kind) : (raise k s).free = s.free := rfl

/-! `finish` writes STATUS only (00 R13). -/

@[simp] theorem finish_cfg : (finish s).cfg = s.cfg := rfl
@[simp] theorem finish_busaddr : (finish s).busaddr = s.busaddr := rfl
@[simp] theorem finish_txw : (finish s).txw = s.txw := rfl
@[simp] theorem finish_status : (finish s).status = 0 := rfl
@[simp] theorem finish_crcout : (finish s).crcout = s.crcout := rfl
@[simp] theorem finish_txlen : (finish s).txlen = s.txlen := rfl
@[simp] theorem finish_txf : (finish s).txf = s.txf := rfl
@[simp] theorem finish_rxlen : (finish s).rxlen = s.rxlen := rfl
@[simp] theorem finish_rxd : (finish s).rxd = s.rxd := rfl
@[simp] theorem finish_crc : (finish s).crc = s.crc := rfl
@[simp] theorem finish_rxq : (finish s).rxq = s.rxq := rfl
@[simp] theorem finish_hostq : (finish s).hostq = s.hostq := rfl
@[simp] theorem finish_writeAnswers : (finish s).writeAnswers = s.writeAnswers := rfl
@[simp] theorem finish_readAnswers : (finish s).readAnswers = s.readAnswers := rfl
@[simp] theorem finish_calls : (finish s).calls = s.calls := rfl
@[simp] theorem finish_readData : (finish s).readData = s.readData := rfl
@[simp] theorem finish_free : (finish s).free = s.free := rfl

/-! TXF made unspecified (10 R27). -/

@[simp] theorem unspecifyTxf_cfg : (unspecifyTxf s).cfg = s.cfg := rfl
@[simp] theorem unspecifyTxf_busaddr : (unspecifyTxf s).busaddr = s.busaddr := rfl
@[simp] theorem unspecifyTxf_txw : (unspecifyTxf s).txw = s.txw := rfl
@[simp] theorem unspecifyTxf_status : (unspecifyTxf s).status = s.status := rfl
@[simp] theorem unspecifyTxf_crcout : (unspecifyTxf s).crcout = s.crcout := rfl
@[simp] theorem unspecifyTxf_txlen : (unspecifyTxf s).txlen = s.txlen := rfl
@[simp] theorem unspecifyTxf_txf : (unspecifyTxf s).txf = freeBytes s.free s.txf.length := rfl
@[simp] theorem unspecifyTxf_rxlen : (unspecifyTxf s).rxlen = s.rxlen := rfl
@[simp] theorem unspecifyTxf_rxd : (unspecifyTxf s).rxd = s.rxd := rfl
@[simp] theorem unspecifyTxf_crc : (unspecifyTxf s).crc = s.crc := rfl
@[simp] theorem unspecifyTxf_rxq : (unspecifyTxf s).rxq = s.rxq := rfl
@[simp] theorem unspecifyTxf_hostq : (unspecifyTxf s).hostq = s.hostq := rfl
@[simp] theorem unspecifyTxf_writeAnswers : (unspecifyTxf s).writeAnswers = s.writeAnswers := rfl
@[simp] theorem unspecifyTxf_readAnswers : (unspecifyTxf s).readAnswers = s.readAnswers := rfl
@[simp] theorem unspecifyTxf_calls : (unspecifyTxf s).calls = s.calls := rfl
@[simp] theorem unspecifyTxf_readData : (unspecifyTxf s).readData = s.readData := rfl
@[simp] theorem unspecifyTxf_free : (unspecifyTxf s).free = s.free + s.txf.length := rfl

/-! RXD made unspecified (10 R29). -/

@[simp] theorem unspecifyRxd_cfg : (unspecifyRxd s).cfg = s.cfg := rfl
@[simp] theorem unspecifyRxd_busaddr : (unspecifyRxd s).busaddr = s.busaddr := rfl
@[simp] theorem unspecifyRxd_txw : (unspecifyRxd s).txw = s.txw := rfl
@[simp] theorem unspecifyRxd_status : (unspecifyRxd s).status = s.status := rfl
@[simp] theorem unspecifyRxd_crcout : (unspecifyRxd s).crcout = s.crcout := rfl
@[simp] theorem unspecifyRxd_txlen : (unspecifyRxd s).txlen = s.txlen := rfl
@[simp] theorem unspecifyRxd_txf : (unspecifyRxd s).txf = s.txf := rfl
@[simp] theorem unspecifyRxd_rxlen : (unspecifyRxd s).rxlen = s.rxlen := rfl
@[simp] theorem unspecifyRxd_rxd : (unspecifyRxd s).rxd = freeBytes s.free s.rxd.length := rfl
@[simp] theorem unspecifyRxd_crc : (unspecifyRxd s).crc = s.crc := rfl
@[simp] theorem unspecifyRxd_rxq : (unspecifyRxd s).rxq = s.rxq := rfl
@[simp] theorem unspecifyRxd_hostq : (unspecifyRxd s).hostq = s.hostq := rfl
@[simp] theorem unspecifyRxd_writeAnswers : (unspecifyRxd s).writeAnswers = s.writeAnswers := rfl
@[simp] theorem unspecifyRxd_readAnswers : (unspecifyRxd s).readAnswers = s.readAnswers := rfl
@[simp] theorem unspecifyRxd_calls : (unspecifyRxd s).calls = s.calls := rfl
@[simp] theorem unspecifyRxd_readData : (unspecifyRxd s).readData = s.readData := rfl
@[simp] theorem unspecifyRxd_free : (unspecifyRxd s).free = s.free + s.rxd.length := rfl

/-! A TransportWrite (41 R121). -/

@[simp] theorem transportWrite_cfg (bytes : List Byte) : (transportWrite bytes s).cfg = s.cfg := rfl
@[simp] theorem transportWrite_busaddr (bytes : List Byte) : (transportWrite bytes s).busaddr = s.busaddr := rfl
@[simp] theorem transportWrite_txw (bytes : List Byte) : (transportWrite bytes s).txw = s.txw := rfl
@[simp] theorem transportWrite_status (bytes : List Byte) : (transportWrite bytes s).status = s.status := rfl
@[simp] theorem transportWrite_crcout (bytes : List Byte) : (transportWrite bytes s).crcout = s.crcout := rfl
@[simp] theorem transportWrite_txlen (bytes : List Byte) : (transportWrite bytes s).txlen = s.txlen := rfl
@[simp] theorem transportWrite_txf (bytes : List Byte) : (transportWrite bytes s).txf = s.txf := rfl
@[simp] theorem transportWrite_rxlen (bytes : List Byte) : (transportWrite bytes s).rxlen = s.rxlen := rfl
@[simp] theorem transportWrite_rxd (bytes : List Byte) : (transportWrite bytes s).rxd = s.rxd := rfl
@[simp] theorem transportWrite_crc (bytes : List Byte) : (transportWrite bytes s).crc = s.crc := rfl
@[simp] theorem transportWrite_rxq (bytes : List Byte) : (transportWrite bytes s).rxq = s.rxq := rfl
@[simp] theorem transportWrite_hostq (bytes : List Byte) : (transportWrite bytes s).hostq = s.hostq := rfl
@[simp] theorem transportWrite_writeAnswers (bytes : List Byte) : (transportWrite bytes s).writeAnswers = s.writeAnswers.tail := rfl
@[simp] theorem transportWrite_readAnswers (bytes : List Byte) : (transportWrite bytes s).readAnswers = s.readAnswers := rfl
@[simp] theorem transportWrite_calls (bytes : List Byte) : (transportWrite bytes s).calls = s.calls ++ [.write s.busaddr bytes] := rfl
@[simp] theorem transportWrite_readData (bytes : List Byte) : (transportWrite bytes s).readData = s.readData := rfl
@[simp] theorem transportWrite_free (bytes : List Byte) : (transportWrite bytes s).free = s.free + 1 := rfl

/-! A TransportRead (42 R142). -/

@[simp] theorem transportRead_cfg (count : Nat) : (transportRead count s).cfg = s.cfg := rfl
@[simp] theorem transportRead_busaddr (count : Nat) : (transportRead count s).busaddr = s.busaddr := rfl
@[simp] theorem transportRead_txw (count : Nat) : (transportRead count s).txw = s.txw := rfl
@[simp] theorem transportRead_status (count : Nat) : (transportRead count s).status = s.status := rfl
@[simp] theorem transportRead_crcout (count : Nat) : (transportRead count s).crcout = s.crcout := rfl
@[simp] theorem transportRead_txlen (count : Nat) : (transportRead count s).txlen = s.txlen := rfl
@[simp] theorem transportRead_txf (count : Nat) : (transportRead count s).txf = s.txf := rfl
@[simp] theorem transportRead_rxlen (count : Nat) : (transportRead count s).rxlen = s.rxlen := rfl
@[simp] theorem transportRead_rxd (count : Nat) : (transportRead count s).rxd = s.rxd := rfl
@[simp] theorem transportRead_crc (count : Nat) : (transportRead count s).crc = s.crc := rfl
@[simp] theorem transportRead_rxq (count : Nat) : (transportRead count s).rxq = s.rxq := rfl
@[simp] theorem transportRead_hostq (count : Nat) : (transportRead count s).hostq = s.hostq := rfl
@[simp] theorem transportRead_writeAnswers (count : Nat) : (transportRead count s).writeAnswers = s.writeAnswers := rfl
@[simp] theorem transportRead_readAnswers (count : Nat) : (transportRead count s).readAnswers = s.readAnswers.tail := rfl
@[simp] theorem transportRead_calls (count : Nat) : (transportRead count s).calls = s.calls ++ [.read s.busaddr count] := rfl
@[simp] theorem transportRead_readData (count : Nat) : (transportRead count s).readData = s.readData := rfl
@[simp] theorem transportRead_free (count : Nat) : (transportRead count s).free = s.free + 1 := rfl

/-! The queue is loaded (42 R142). -/

@[simp] theorem loadRxq_cfg (l : List Byte) : (loadRxq l s).cfg = s.cfg := rfl
@[simp] theorem loadRxq_busaddr (l : List Byte) : (loadRxq l s).busaddr = s.busaddr := rfl
@[simp] theorem loadRxq_txw (l : List Byte) : (loadRxq l s).txw = s.txw := rfl
@[simp] theorem loadRxq_status (l : List Byte) : (loadRxq l s).status = s.status := rfl
@[simp] theorem loadRxq_crcout (l : List Byte) : (loadRxq l s).crcout = s.crcout := rfl
@[simp] theorem loadRxq_txlen (l : List Byte) : (loadRxq l s).txlen = s.txlen := rfl
@[simp] theorem loadRxq_txf (l : List Byte) : (loadRxq l s).txf = s.txf := rfl
@[simp] theorem loadRxq_rxlen (l : List Byte) : (loadRxq l s).rxlen = s.rxlen := rfl
@[simp] theorem loadRxq_rxd (l : List Byte) : (loadRxq l s).rxd = s.rxd := rfl
@[simp] theorem loadRxq_crc (l : List Byte) : (loadRxq l s).crc = s.crc := rfl
@[simp] theorem loadRxq_rxq (l : List Byte) : (loadRxq l s).rxq = l := rfl
@[simp] theorem loadRxq_hostq (l : List Byte) : (loadRxq l s).hostq = s.hostq := rfl
@[simp] theorem loadRxq_writeAnswers (l : List Byte) : (loadRxq l s).writeAnswers = s.writeAnswers := rfl
@[simp] theorem loadRxq_readAnswers (l : List Byte) : (loadRxq l s).readAnswers = s.readAnswers := rfl
@[simp] theorem loadRxq_calls (l : List Byte) : (loadRxq l s).calls = s.calls := rfl
@[simp] theorem loadRxq_readData (l : List Byte) : (loadRxq l s).readData = s.readData := rfl
@[simp] theorem loadRxq_free (l : List Byte) : (loadRxq l s).free = s.free := rfl

/-! The queue is drained (42 R147). -/

@[simp] theorem drain_cfg : (drain s).cfg = s.cfg := rfl
@[simp] theorem drain_busaddr : (drain s).busaddr = s.busaddr := rfl
@[simp] theorem drain_txw : (drain s).txw = s.txw := rfl
@[simp] theorem drain_status : (drain s).status = s.status := rfl
@[simp] theorem drain_crcout : (drain s).crcout = s.crcout := rfl
@[simp] theorem drain_txlen : (drain s).txlen = s.txlen := rfl
@[simp] theorem drain_txf : (drain s).txf = s.txf := rfl
@[simp] theorem drain_rxlen : (drain s).rxlen = s.rxlen := rfl
@[simp] theorem drain_rxd : (drain s).rxd = s.rxd := rfl
@[simp] theorem drain_crc : (drain s).crc = s.crc := rfl
@[simp] theorem drain_rxq : (drain s).rxq = [] := rfl
@[simp] theorem drain_hostq : (drain s).hostq = s.hostq := rfl
@[simp] theorem drain_writeAnswers : (drain s).writeAnswers = s.writeAnswers := rfl
@[simp] theorem drain_readAnswers : (drain s).readAnswers = s.readAnswers := rfl
@[simp] theorem drain_calls : (drain s).calls = s.calls := rfl
@[simp] theorem drain_readData : (drain s).readData = s.readData := rfl
@[simp] theorem drain_free : (drain s).free = s.free := rfl

/-! The CRC engine runs one group (10 R34). -/

@[simp] theorem crcEngine_cfg (b0 b1 : Byte) : (crcEngine b0 b1 s).cfg = s.cfg := rfl
@[simp] theorem crcEngine_busaddr (b0 b1 : Byte) : (crcEngine b0 b1 s).busaddr = s.busaddr := rfl
@[simp] theorem crcEngine_txw (b0 b1 : Byte) : (crcEngine b0 b1 s).txw = s.txw := rfl
@[simp] theorem crcEngine_status (b0 b1 : Byte) : (crcEngine b0 b1 s).status = s.status := rfl
@[simp] theorem crcEngine_crcout (b0 b1 : Byte) : (crcEngine b0 b1 s).crcout = s.crcout := rfl
@[simp] theorem crcEngine_txlen (b0 b1 : Byte) : (crcEngine b0 b1 s).txlen = s.txlen := rfl
@[simp] theorem crcEngine_txf (b0 b1 : Byte) : (crcEngine b0 b1 s).txf = s.txf := rfl
@[simp] theorem crcEngine_rxlen (b0 b1 : Byte) : (crcEngine b0 b1 s).rxlen = s.rxlen := rfl
@[simp] theorem crcEngine_rxd (b0 b1 : Byte) : (crcEngine b0 b1 s).rxd = s.rxd := rfl
@[simp] theorem crcEngine_crc (b0 b1 : Byte) : (crcEngine b0 b1 s).crc = crc8 b0 b1 := rfl
@[simp] theorem crcEngine_rxq (b0 b1 : Byte) : (crcEngine b0 b1 s).rxq = s.rxq := rfl
@[simp] theorem crcEngine_hostq (b0 b1 : Byte) : (crcEngine b0 b1 s).hostq = s.hostq := rfl
@[simp] theorem crcEngine_writeAnswers (b0 b1 : Byte) : (crcEngine b0 b1 s).writeAnswers = s.writeAnswers := rfl
@[simp] theorem crcEngine_readAnswers (b0 b1 : Byte) : (crcEngine b0 b1 s).readAnswers = s.readAnswers := rfl
@[simp] theorem crcEngine_calls (b0 b1 : Byte) : (crcEngine b0 b1 s).calls = s.calls := rfl
@[simp] theorem crcEngine_readData (b0 b1 : Byte) : (crcEngine b0 b1 s).readData = s.readData := rfl
@[simp] theorem crcEngine_free (b0 b1 : Byte) : (crcEngine b0 b1 s).free = s.free := rfl

/-! The CRC goes to CRCOUT (40 R107). -/

@[simp] theorem crcToOut_cfg (b0 b1 : Byte) : (crcToOut b0 b1 s).cfg = s.cfg := rfl
@[simp] theorem crcToOut_busaddr (b0 b1 : Byte) : (crcToOut b0 b1 s).busaddr = s.busaddr := rfl
@[simp] theorem crcToOut_txw (b0 b1 : Byte) : (crcToOut b0 b1 s).txw = s.txw := rfl
@[simp] theorem crcToOut_status (b0 b1 : Byte) : (crcToOut b0 b1 s).status = s.status := rfl
@[simp] theorem crcToOut_crcout (b0 b1 : Byte) : (crcToOut b0 b1 s).crcout = crc8 b0 b1 := rfl
@[simp] theorem crcToOut_txlen (b0 b1 : Byte) : (crcToOut b0 b1 s).txlen = s.txlen := rfl
@[simp] theorem crcToOut_txf (b0 b1 : Byte) : (crcToOut b0 b1 s).txf = s.txf := rfl
@[simp] theorem crcToOut_rxlen (b0 b1 : Byte) : (crcToOut b0 b1 s).rxlen = s.rxlen := rfl
@[simp] theorem crcToOut_rxd (b0 b1 : Byte) : (crcToOut b0 b1 s).rxd = s.rxd := rfl
@[simp] theorem crcToOut_crc (b0 b1 : Byte) : (crcToOut b0 b1 s).crc = crc8 b0 b1 := rfl
@[simp] theorem crcToOut_rxq (b0 b1 : Byte) : (crcToOut b0 b1 s).rxq = s.rxq := rfl
@[simp] theorem crcToOut_hostq (b0 b1 : Byte) : (crcToOut b0 b1 s).hostq = s.hostq := rfl
@[simp] theorem crcToOut_writeAnswers (b0 b1 : Byte) : (crcToOut b0 b1 s).writeAnswers = s.writeAnswers := rfl
@[simp] theorem crcToOut_readAnswers (b0 b1 : Byte) : (crcToOut b0 b1 s).readAnswers = s.readAnswers := rfl
@[simp] theorem crcToOut_calls (b0 b1 : Byte) : (crcToOut b0 b1 s).calls = s.calls := rfl
@[simp] theorem crcToOut_readData (b0 b1 : Byte) : (crcToOut b0 b1 s).readData = s.readData := rfl
@[simp] theorem crcToOut_free (b0 b1 : Byte) : (crcToOut b0 b1 s).free = s.free := rfl

/-! The frame is built and kept (41 R121). -/

@[simp] theorem buildFrame_cfg (op : Word) (ws : List Word) : (buildFrame op ws s).cfg = s.cfg := rfl
@[simp] theorem buildFrame_busaddr (op : Word) (ws : List Word) : (buildFrame op ws s).busaddr = s.busaddr := rfl
@[simp] theorem buildFrame_txw (op : Word) (ws : List Word) : (buildFrame op ws s).txw = s.txw := rfl
@[simp] theorem buildFrame_status (op : Word) (ws : List Word) : (buildFrame op ws s).status = s.status := rfl
@[simp] theorem buildFrame_crcout (op : Word) (ws : List Word) : (buildFrame op ws s).crcout = s.crcout := rfl
@[simp] theorem buildFrame_txlen (op : Word) (ws : List Word) : (buildFrame op ws s).txlen = BitVec.ofNat 8 (frame op ws).length := rfl
@[simp] theorem buildFrame_txf (op : Word) (ws : List Word) : (buildFrame op ws s).txf = overlay (frame op ws) s.txf := rfl
@[simp] theorem buildFrame_rxlen (op : Word) (ws : List Word) : (buildFrame op ws s).rxlen = s.rxlen := rfl
@[simp] theorem buildFrame_rxd (op : Word) (ws : List Word) : (buildFrame op ws s).rxd = s.rxd := rfl
@[simp] theorem buildFrame_crc (op : Word) (ws : List Word) : (buildFrame op ws s).crc = crcOfWords ws s.crc := rfl
@[simp] theorem buildFrame_rxq (op : Word) (ws : List Word) : (buildFrame op ws s).rxq = s.rxq := rfl
@[simp] theorem buildFrame_hostq (op : Word) (ws : List Word) : (buildFrame op ws s).hostq = s.hostq := rfl
@[simp] theorem buildFrame_writeAnswers (op : Word) (ws : List Word) : (buildFrame op ws s).writeAnswers = s.writeAnswers := rfl
@[simp] theorem buildFrame_readAnswers (op : Word) (ws : List Word) : (buildFrame op ws s).readAnswers = s.readAnswers := rfl
@[simp] theorem buildFrame_calls (op : Word) (ws : List Word) : (buildFrame op ws s).calls = s.calls := rfl
@[simp] theorem buildFrame_readData (op : Word) (ws : List Word) : (buildFrame op ws s).readData = s.readData := rfl
@[simp] theorem buildFrame_free (op : Word) (ws : List Word) : (buildFrame op ws s).free = s.free := rfl

/-! The groups of the queue are consumed (42 R142). -/

@[simp] theorem consumeGroups_cfg (mode : ReadMode) : (consumeGroups mode s).cfg = s.cfg := rfl
@[simp] theorem consumeGroups_busaddr (mode : ReadMode) : (consumeGroups mode s).busaddr = s.busaddr := rfl
@[simp] theorem consumeGroups_txw (mode : ReadMode) : (consumeGroups mode s).txw = s.txw := rfl
@[simp] theorem consumeGroups_status (mode : ReadMode) : (consumeGroups mode s).status = s.status := rfl
@[simp] theorem consumeGroups_crcout (mode : ReadMode) : (consumeGroups mode s).crcout = s.crcout := rfl
@[simp] theorem consumeGroups_txlen (mode : ReadMode) : (consumeGroups mode s).txlen = s.txlen := rfl
@[simp] theorem consumeGroups_txf (mode : ReadMode) : (consumeGroups mode s).txf = s.txf := rfl
@[simp] theorem consumeGroups_rxlen (mode : ReadMode) : (consumeGroups mode s).rxlen = s.rxlen := rfl
@[simp] theorem consumeGroups_rxd (mode : ReadMode) : (consumeGroups mode s).rxd = s.rxd := rfl
@[simp] theorem consumeGroups_crc (mode : ReadMode) : (consumeGroups mode s).crc = (runGroups mode s.crc s.rxq).crc := rfl
@[simp] theorem consumeGroups_rxq (mode : ReadMode) : (consumeGroups mode s).rxq = (runGroups mode s.crc s.rxq).left := rfl
@[simp] theorem consumeGroups_hostq (mode : ReadMode) : (consumeGroups mode s).hostq = s.hostq := rfl
@[simp] theorem consumeGroups_writeAnswers (mode : ReadMode) : (consumeGroups mode s).writeAnswers = s.writeAnswers := rfl
@[simp] theorem consumeGroups_readAnswers (mode : ReadMode) : (consumeGroups mode s).readAnswers = s.readAnswers := rfl
@[simp] theorem consumeGroups_calls (mode : ReadMode) : (consumeGroups mode s).calls = s.calls := rfl
@[simp] theorem consumeGroups_readData (mode : ReadMode) : (consumeGroups mode s).readData = s.readData := rfl
@[simp] theorem consumeGroups_free (mode : ReadMode) : (consumeGroups mode s).free = s.free := rfl

/-! A host write of BUSADDR (10 R22). -/

@[simp] theorem setBusaddr_cfg (v : BitVec 32) : (setBusaddr v s).cfg = s.cfg := rfl
@[simp] theorem setBusaddr_busaddr (v : BitVec 32) : (setBusaddr v s).busaddr = v.setWidth 7 := rfl
@[simp] theorem setBusaddr_txw (v : BitVec 32) : (setBusaddr v s).txw = s.txw := rfl
@[simp] theorem setBusaddr_status (v : BitVec 32) : (setBusaddr v s).status = s.status := rfl
@[simp] theorem setBusaddr_crcout (v : BitVec 32) : (setBusaddr v s).crcout = s.crcout := rfl
@[simp] theorem setBusaddr_txlen (v : BitVec 32) : (setBusaddr v s).txlen = s.txlen := rfl
@[simp] theorem setBusaddr_txf (v : BitVec 32) : (setBusaddr v s).txf = s.txf := rfl
@[simp] theorem setBusaddr_rxlen (v : BitVec 32) : (setBusaddr v s).rxlen = s.rxlen := rfl
@[simp] theorem setBusaddr_rxd (v : BitVec 32) : (setBusaddr v s).rxd = s.rxd := rfl
@[simp] theorem setBusaddr_crc (v : BitVec 32) : (setBusaddr v s).crc = s.crc := rfl
@[simp] theorem setBusaddr_rxq (v : BitVec 32) : (setBusaddr v s).rxq = s.rxq := rfl
@[simp] theorem setBusaddr_hostq (v : BitVec 32) : (setBusaddr v s).hostq = s.hostq := rfl
@[simp] theorem setBusaddr_writeAnswers (v : BitVec 32) : (setBusaddr v s).writeAnswers = s.writeAnswers := rfl
@[simp] theorem setBusaddr_readAnswers (v : BitVec 32) : (setBusaddr v s).readAnswers = s.readAnswers := rfl
@[simp] theorem setBusaddr_calls (v : BitVec 32) : (setBusaddr v s).calls = s.calls := rfl
@[simp] theorem setBusaddr_readData (v : BitVec 32) : (setBusaddr v s).readData = s.readData := rfl
@[simp] theorem setBusaddr_free (v : BitVec 32) : (setBusaddr v s).free = s.free := rfl

/-! A host write of TXW[i] (10 R23). -/

@[simp] theorem setTxw_cfg (i : Nat) (v : BitVec 32) : (setTxw i v s).cfg = s.cfg := rfl
@[simp] theorem setTxw_busaddr (i : Nat) (v : BitVec 32) : (setTxw i v s).busaddr = s.busaddr := rfl
@[simp] theorem setTxw_txw (i : Nat) (v : BitVec 32) : (setTxw i v s).txw = s.txw.set i { value := v.setWidth 16, written := true } := rfl
@[simp] theorem setTxw_status (i : Nat) (v : BitVec 32) : (setTxw i v s).status = s.status := rfl
@[simp] theorem setTxw_crcout (i : Nat) (v : BitVec 32) : (setTxw i v s).crcout = s.crcout := rfl
@[simp] theorem setTxw_txlen (i : Nat) (v : BitVec 32) : (setTxw i v s).txlen = s.txlen := rfl
@[simp] theorem setTxw_txf (i : Nat) (v : BitVec 32) : (setTxw i v s).txf = s.txf := rfl
@[simp] theorem setTxw_rxlen (i : Nat) (v : BitVec 32) : (setTxw i v s).rxlen = s.rxlen := rfl
@[simp] theorem setTxw_rxd (i : Nat) (v : BitVec 32) : (setTxw i v s).rxd = s.rxd := rfl
@[simp] theorem setTxw_crc (i : Nat) (v : BitVec 32) : (setTxw i v s).crc = s.crc := rfl
@[simp] theorem setTxw_rxq (i : Nat) (v : BitVec 32) : (setTxw i v s).rxq = s.rxq := rfl
@[simp] theorem setTxw_hostq (i : Nat) (v : BitVec 32) : (setTxw i v s).hostq = s.hostq := rfl
@[simp] theorem setTxw_writeAnswers (i : Nat) (v : BitVec 32) : (setTxw i v s).writeAnswers = s.writeAnswers := rfl
@[simp] theorem setTxw_readAnswers (i : Nat) (v : BitVec 32) : (setTxw i v s).readAnswers = s.readAnswers := rfl
@[simp] theorem setTxw_calls (i : Nat) (v : BitVec 32) : (setTxw i v s).calls = s.calls := rfl
@[simp] theorem setTxw_readData (i : Nat) (v : BitVec 32) : (setTxw i v s).readData = s.readData := rfl
@[simp] theorem setTxw_free (i : Nat) (v : BitVec 32) : (setTxw i v s).free = s.free := rfl

/-! A WRITE refused by its checks (10 R26, R27). -/

@[simp] theorem refuseFrame_cfg (k : Kind) : (refuseFrame k s).cfg = s.cfg := rfl
@[simp] theorem refuseFrame_busaddr (k : Kind) : (refuseFrame k s).busaddr = s.busaddr := rfl
@[simp] theorem refuseFrame_txw (k : Kind) : (refuseFrame k s).txw = s.txw := rfl
@[simp] theorem refuseFrame_status (k : Kind) : (refuseFrame k s).status = statusCode k := rfl
@[simp] theorem refuseFrame_crcout (k : Kind) : (refuseFrame k s).crcout = s.crcout := rfl
@[simp] theorem refuseFrame_txlen (k : Kind) : (refuseFrame k s).txlen = 0 := rfl
@[simp] theorem refuseFrame_txf (k : Kind) : (refuseFrame k s).txf = freeBytes s.free s.txf.length := rfl
@[simp] theorem refuseFrame_rxlen (k : Kind) : (refuseFrame k s).rxlen = s.rxlen := rfl
@[simp] theorem refuseFrame_rxd (k : Kind) : (refuseFrame k s).rxd = s.rxd := rfl
@[simp] theorem refuseFrame_crc (k : Kind) : (refuseFrame k s).crc = s.crc := rfl
@[simp] theorem refuseFrame_rxq (k : Kind) : (refuseFrame k s).rxq = s.rxq := rfl
@[simp] theorem refuseFrame_hostq (k : Kind) : (refuseFrame k s).hostq = s.hostq := rfl
@[simp] theorem refuseFrame_writeAnswers (k : Kind) : (refuseFrame k s).writeAnswers = s.writeAnswers := rfl
@[simp] theorem refuseFrame_readAnswers (k : Kind) : (refuseFrame k s).readAnswers = s.readAnswers := rfl
@[simp] theorem refuseFrame_calls (k : Kind) : (refuseFrame k s).calls = s.calls := rfl
@[simp] theorem refuseFrame_readData (k : Kind) : (refuseFrame k s).readData = s.readData := rfl
@[simp] theorem refuseFrame_free (k : Kind) : (refuseFrame k s).free = s.free + s.txf.length := rfl

/-! A WRITE that sends its frame (41 R121). -/

@[simp] theorem sendFrame_cfg (op : Word) (ws : List Word) : (sendFrame op ws s).cfg = s.cfg := rfl
@[simp] theorem sendFrame_busaddr (op : Word) (ws : List Word) : (sendFrame op ws s).busaddr = s.busaddr := rfl
@[simp] theorem sendFrame_txw (op : Word) (ws : List Word) : (sendFrame op ws s).txw = s.txw := rfl
@[simp] theorem sendFrame_status (op : Word) (ws : List Word) : (sendFrame op ws s).status = statusCode (writeAnswerKind (writeAnswer s)) := rfl
@[simp] theorem sendFrame_crcout (op : Word) (ws : List Word) : (sendFrame op ws s).crcout = s.crcout := rfl
@[simp] theorem sendFrame_txlen (op : Word) (ws : List Word) : (sendFrame op ws s).txlen = BitVec.ofNat 8 (frame op ws).length := rfl
@[simp] theorem sendFrame_txf (op : Word) (ws : List Word) : (sendFrame op ws s).txf = overlay (frame op ws) s.txf := rfl
@[simp] theorem sendFrame_rxlen (op : Word) (ws : List Word) : (sendFrame op ws s).rxlen = s.rxlen := rfl
@[simp] theorem sendFrame_rxd (op : Word) (ws : List Word) : (sendFrame op ws s).rxd = s.rxd := rfl
@[simp] theorem sendFrame_crc (op : Word) (ws : List Word) : (sendFrame op ws s).crc = crcOfWords ws s.crc := rfl
@[simp] theorem sendFrame_rxq (op : Word) (ws : List Word) : (sendFrame op ws s).rxq = s.rxq := rfl
@[simp] theorem sendFrame_hostq (op : Word) (ws : List Word) : (sendFrame op ws s).hostq = s.hostq := rfl
@[simp] theorem sendFrame_writeAnswers (op : Word) (ws : List Word) : (sendFrame op ws s).writeAnswers = s.writeAnswers.tail := rfl
@[simp] theorem sendFrame_readAnswers (op : Word) (ws : List Word) : (sendFrame op ws s).readAnswers = s.readAnswers := rfl
@[simp] theorem sendFrame_calls (op : Word) (ws : List Word) : (sendFrame op ws s).calls = s.calls ++ [.write s.busaddr (frame op ws)] := rfl
@[simp] theorem sendFrame_readData (op : Word) (ws : List Word) : (sendFrame op ws s).readData = s.readData := rfl
@[simp] theorem sendFrame_free (op : Word) (ws : List Word) : (sendFrame op ws s).free = s.free + 1 := rfl

/-! A read that fails (42 R148). -/

@[simp] theorem failRead_cfg (k : Kind) : (failRead k s).cfg = s.cfg := rfl
@[simp] theorem failRead_busaddr (k : Kind) : (failRead k s).busaddr = s.busaddr := rfl
@[simp] theorem failRead_txw (k : Kind) : (failRead k s).txw = s.txw := rfl
@[simp] theorem failRead_status (k : Kind) : (failRead k s).status = statusCode k := rfl
@[simp] theorem failRead_crcout (k : Kind) : (failRead k s).crcout = s.crcout := rfl
@[simp] theorem failRead_txlen (k : Kind) : (failRead k s).txlen = s.txlen := rfl
@[simp] theorem failRead_txf (k : Kind) : (failRead k s).txf = s.txf := rfl
@[simp] theorem failRead_rxlen (k : Kind) : (failRead k s).rxlen = 0 := rfl
@[simp] theorem failRead_rxd (k : Kind) : (failRead k s).rxd = freeBytes s.free s.rxd.length := rfl
@[simp] theorem failRead_crc (k : Kind) : (failRead k s).crc = s.crc := rfl
@[simp] theorem failRead_rxq (k : Kind) : (failRead k s).rxq = [] := rfl
@[simp] theorem failRead_hostq (k : Kind) : (failRead k s).hostq = s.hostq := rfl
@[simp] theorem failRead_writeAnswers (k : Kind) : (failRead k s).writeAnswers = s.writeAnswers := rfl
@[simp] theorem failRead_readAnswers (k : Kind) : (failRead k s).readAnswers = s.readAnswers := rfl
@[simp] theorem failRead_calls (k : Kind) : (failRead k s).calls = s.calls := rfl
@[simp] theorem failRead_readData (k : Kind) : (failRead k s).readData = s.readData := rfl
@[simp] theorem failRead_free (k : Kind) : (failRead k s).free = s.free + s.rxd.length := rfl

/-! A read that ends with OK (42 R142). -/

@[simp] theorem completeRead_cfg (out : List Byte) : (completeRead out s).cfg = s.cfg := rfl
@[simp] theorem completeRead_busaddr (out : List Byte) : (completeRead out s).busaddr = s.busaddr := rfl
@[simp] theorem completeRead_txw (out : List Byte) : (completeRead out s).txw = s.txw := rfl
@[simp] theorem completeRead_status (out : List Byte) : (completeRead out s).status = 0 := rfl
@[simp] theorem completeRead_crcout (out : List Byte) : (completeRead out s).crcout = s.crcout := rfl
@[simp] theorem completeRead_txlen (out : List Byte) : (completeRead out s).txlen = s.txlen := rfl
@[simp] theorem completeRead_txf (out : List Byte) : (completeRead out s).txf = s.txf := rfl
@[simp] theorem completeRead_rxlen (out : List Byte) : (completeRead out s).rxlen = BitVec.ofNat 8 out.length := rfl
@[simp] theorem completeRead_rxd (out : List Byte) : (completeRead out s).rxd = overlay out s.rxd := rfl
@[simp] theorem completeRead_crc (out : List Byte) : (completeRead out s).crc = s.crc := rfl
@[simp] theorem completeRead_rxq (out : List Byte) : (completeRead out s).rxq = [] := rfl
@[simp] theorem completeRead_hostq (out : List Byte) : (completeRead out s).hostq = s.hostq := rfl
@[simp] theorem completeRead_writeAnswers (out : List Byte) : (completeRead out s).writeAnswers = s.writeAnswers := rfl
@[simp] theorem completeRead_readAnswers (out : List Byte) : (completeRead out s).readAnswers = s.readAnswers := rfl
@[simp] theorem completeRead_calls (out : List Byte) : (completeRead out s).calls = s.calls := rfl
@[simp] theorem completeRead_readData (out : List Byte) : (completeRead out s).readData = s.readData := rfl
@[simp] theorem completeRead_free (out : List Byte) : (completeRead out s).free = s.free := rfl

/-! Reset (70 R200). -/

@[simp] theorem assertReset_cfg : (assertReset s).cfg = s.cfg := rfl
@[simp] theorem assertReset_busaddr : (assertReset s).busaddr = 0 := rfl
@[simp] theorem assertReset_txw : (assertReset s).txw = List.replicate s.cfg.maxTxWords { value := 0, written := false } := rfl
@[simp] theorem assertReset_status : (assertReset s).status = 0 := rfl
@[simp] theorem assertReset_crcout : (assertReset s).crcout = 0 := rfl
@[simp] theorem assertReset_txlen : (assertReset s).txlen = 0 := rfl
@[simp] theorem assertReset_txf : (assertReset s).txf = List.replicate s.cfg.txfSize 0 := rfl
@[simp] theorem assertReset_rxlen : (assertReset s).rxlen = 0 := rfl
@[simp] theorem assertReset_rxd : (assertReset s).rxd = List.replicate s.cfg.maxRxData 0 := rfl
@[simp] theorem assertReset_crc : (assertReset s).crc = 0 := rfl
@[simp] theorem assertReset_rxq : (assertReset s).rxq = [] := rfl
@[simp] theorem assertReset_hostq : (assertReset s).hostq = s.hostq := rfl
@[simp] theorem assertReset_writeAnswers : (assertReset s).writeAnswers = s.writeAnswers := rfl
@[simp] theorem assertReset_readAnswers : (assertReset s).readAnswers = s.readAnswers := rfl
@[simp] theorem assertReset_calls : (assertReset s).calls = s.calls := rfl
@[simp] theorem assertReset_readData : (assertReset s).readData = s.readData := rfl
@[simp] theorem assertReset_free : (assertReset s).free = s.free := rfl

end Sys2Proof.Machine
end

