-- ==== Sys2Proof/Laws/Ops.lean ====
section
/-! SUPPORT. One lemma per shared operation: everything it can do. Proofs cite these and do not unfold the
operation. -/

namespace Sys2Proof.Machine

/-! ### Arrays and free bytes -/

@[simp] theorem freeBytes_length (k n : Nat) : (freeBytes k n).length = n := by
  simp [freeBytes]

theorem overlay_length (new old : List Byte) (h : new.length ≤ old.length) :
    (overlay new old).length = old.length := by
  simp only [overlay, List.length_append, List.length_drop]; omega

@[simp] theorem overlay_take (new old : List Byte) : (overlay new old).take new.length = new := by
  simp [overlay]

theorem overlay_getElem?_lt (new old : List Byte) {j : Nat} (h : j < new.length) :
    (overlay new old)[j]? = new[j]? := by
  simp only [overlay, List.getElem?_append_left h]

theorem overlay_getElem?_ge (new old : List Byte) {j : Nat} (h : new.length ≤ j) :
    (overlay new old)[j]? = old[j]? := by
  simp only [overlay, List.getElem?_append_right h, List.getElem?_drop]
  congr 1; omega

/-! ### The operands of WRITE -/

/-- `firstUnwritten` finds nothing exactly when all `n` words are written (10 R37). -/
theorem firstUnwritten_none_iff (s : State) (n : Nat) :
    firstUnwritten s n = none ↔ ∀ k < n, txwWritten s k = true := by
  simp [firstUnwritten]

/-- What `firstUnwritten` finds is below `n` and not written. -/
theorem firstUnwritten_some (s : State) {n k : Nat} (h : firstUnwritten s n = some k) :
    k < n ∧ txwWritten s k = false := by
  have hp := List.find?_some h
  have hm := List.mem_of_find?_eq_some h
  exact ⟨List.mem_range.1 hm, by simpa using hp⟩

@[simp] theorem txWords_length (s : State) (n : Nat) : (txWords s n).length = n := by
  simp [txWords]

/-! ### The commands: what each can answer -/

/-- WRITE ends in one of four ways (41 R121, 60 R173). -/
theorem execWrite_cases (n : BitVec 8) (op : Word) (s : State) :
    (op = 0x0000 ∧ execWrite n op s = .next (refuseFrame .unknownCommand s)) ∨
    (op ≠ 0x0000 ∧ s.cfg.maxTxWords < n.toNat ∧
      execWrite n op s = .next (refuseFrame .invalidParameter s)) ∨
    (op ≠ 0x0000 ∧ n.toNat ≤ s.cfg.maxTxWords ∧ ∃ k < n.toNat, txwWritten s k = false ∧
      execWrite n op s = .fault (.unwrittenTxw k)) ∨
    (op ≠ 0x0000 ∧ n.toNat ≤ s.cfg.maxTxWords ∧ (∀ k < n.toNat, txwWritten s k = true) ∧
      execWrite n op s = .next (sendFrame op (txWords s n.toNat) s)) := by
  by_cases h0 : op = 0x0000
  · exact .inl ⟨h0, by rw [execWrite, if_pos h0]⟩
  by_cases h1 : s.cfg.maxTxWords < n.toNat
  · exact .inr (.inl ⟨h0, h1, by rw [execWrite, if_neg h0, if_pos h1]⟩)
  have h1' : n.toNat ≤ s.cfg.maxTxWords := Nat.le_of_not_lt h1
  cases h2 : firstUnwritten s n.toNat with
  | some k =>
    obtain ⟨hk, hw⟩ := firstUnwritten_some s h2
    exact .inr (.inr (.inl ⟨h0, h1', k, hk, hw, by rw [execWrite, if_neg h0, if_neg h1, h2]⟩))
  | none =>
    exact .inr (.inr (.inr ⟨h0, h1', (firstUnwritten_none_iff s _).1 h2,
      by rw [execWrite, if_neg h0, if_neg h1, h2]⟩))

/-- How a read ends after its loop (42 R142, 60 R174). -/
theorem endRead_cases (mode : ReadMode) (n : Nat) (run : GroupRun) (s : State) :
    (run.ok = false ∧ endRead mode n run s = failRead .protocol s) ∨
    (run.ok = true ∧ mode = .fixed ∧ run.out.length ≠ n ∧
      endRead mode n run s = failRead .dataLength s) ∨
    (run.ok = true ∧ (mode = .fixed → run.out.length = n) ∧
      endRead mode n run s = completeRead run.out s) := by
  by_cases h : run.ok = false
  · exact .inl ⟨h, by rw [endRead, if_pos h]⟩
  have hok : run.ok = true := by simpa using h
  by_cases hd : mode = .fixed ∧ run.out.length ≠ n
  · exact .inr (.inl ⟨hok, hd.1, hd.2, by rw [endRead, if_neg h, if_pos hd]⟩)
  · refine .inr (.inr ⟨hok, fun hm => ?_, by rw [endRead, if_neg h, if_neg hd]⟩)
    by_contra hne
    exact hd ⟨hm, hne⟩

/-- After the transport answered, a read fails on its error, fails on the byte count, or ends as its groups
say (42 R142). -/
theorem takeResponse_cases (mode : ReadMode) (n : Nat) (a : ReadAnswer) (s : State) :
    (∃ e, a = .error e ∧ takeResponse mode n a s = failRead (busErrorKind e) s) ∨
    (∃ l, a = .bytes l ∧ l.length ≠ requestLength n ∧
      takeResponse mode n a s = failRead .protocol (loadRxq l s)) ∨
    (∃ l, a = .bytes l ∧ l.length = requestLength n ∧
      takeResponse mode n a s =
        endRead mode n (runGroups mode s.crc l) (consumeGroups mode (loadRxq l s))) := by
  cases a with
  | error e => exact .inl ⟨e, rfl, rfl⟩
  | bytes l =>
    by_cases hl : l.length = requestLength n
    · refine .inr (.inr ⟨l, rfl, hl, ?_⟩)
      rw [takeResponse, if_neg (not_not_intro hl)]
      rfl
    · exact .inr (.inl ⟨l, rfl, hl, by rw [takeResponse, if_pos hl]⟩)

/-- A read whose N is out of range makes no transport call; any other makes one and takes its answer
(42 R142, R143). -/
theorem readDecode_cases (mode : ReadMode) (n : Nat) (s : State) :
    (¬ (2 ≤ n ∧ n ≤ s.cfg.maxRxData) ∧ readDecode mode n s = failRead .invalidParameter s) ∨
    ((2 ≤ n ∧ n ≤ s.cfg.maxRxData) ∧
      readDecode mode n s =
        takeResponse mode n (readAnswer s) (transportRead (requestLength n) s)) := by
  by_cases h : 2 ≤ n ∧ n ≤ s.cfg.maxRxData
  · exact .inr ⟨h, by simp [readDecode, countInRange, h]⟩
  · exact .inl ⟨h, by simp [readDecode, countInRange, h]⟩

/-- Everything a read can do (42 R142), with the state it ends in. -/
theorem readDecode_outcomes (mode : ReadMode) (n : Nat) (s : State) :
    let asked := transportRead (requestLength n) s
    let inRange := 2 ≤ n ∧ n ≤ s.cfg.maxRxData
    (¬ inRange ∧ readDecode mode n s = failRead .invalidParameter s) ∨
    (inRange ∧ ∃ e, readAnswer s = .error e ∧ readDecode mode n s = failRead (busErrorKind e) asked) ∨
    (inRange ∧ ∃ l, readAnswer s = .bytes l ∧
      ((l.length ≠ requestLength n ∧ readDecode mode n s = failRead .protocol (loadRxq l asked)) ∨
       (l.length = requestLength n ∧ (runGroups mode s.crc l).ok = false ∧
        readDecode mode n s = failRead .protocol (consumeGroups mode (loadRxq l asked))) ∨
       (l.length = requestLength n ∧ (runGroups mode s.crc l).ok = true ∧ mode = .fixed ∧
        (runGroups mode s.crc l).out.length ≠ n ∧
        readDecode mode n s = failRead .dataLength (consumeGroups mode (loadRxq l asked))) ∨
       (l.length = requestLength n ∧ (runGroups mode s.crc l).ok = true ∧
        (mode = .fixed → (runGroups mode s.crc l).out.length = n) ∧
        readDecode mode n s =
          completeRead (runGroups mode s.crc l).out (consumeGroups mode (loadRxq l asked))))) := by
  intro asked inRange
  rcases readDecode_cases mode n s with ⟨hr, h⟩ | ⟨hr, h⟩
  · exact .inl ⟨hr, h⟩
  rw [h]
  rcases takeResponse_cases mode n (readAnswer s) asked with
    ⟨e, ha, ht⟩ | ⟨l, ha, hl, ht⟩ | ⟨l, ha, hl, ht⟩
  · exact .inr (.inl ⟨hr, e, ha, ht⟩)
  · exact .inr (.inr ⟨hr, l, ha, .inl ⟨hl, ht⟩⟩)
  · refine .inr (.inr ⟨hr, l, ha, .inr ?_⟩)
    rw [ht]
    rcases endRead_cases mode n (runGroups mode s.crc l) (consumeGroups mode (loadRxq l asked)) with
      ⟨hok, he⟩ | ⟨hok, hm, hn, he⟩ | ⟨hok, hn, he⟩
    · exact .inl ⟨hl, hok, he⟩
    · exact .inr (.inl ⟨hl, hok, hm, hn, he⟩)
    · exact .inr (.inr ⟨hl, hok, hn, he⟩)

/-- The read commands run `readDecode` in their mode (42 R144, R145). -/
theorem exec_readInstr (mode : ReadMode) (n : BitVec 8) (s : State) :
    exec (readInstr mode n) s = .next (readDecode mode n.toNat s) := by
  cases mode <;> rfl

/-- A CMD write runs the command it decodes to, or writes STATUS only (30 R80, R83). -/
theorem runCommand_cases (c : CmdWord) (s : State) :
    (∃ i, decode c = .ok i ∧ runCommand c s = exec i s) ∨
    (∃ e, decode c = .error e ∧ runCommand c s = .next (raise .invalidParameter s)) := by
  cases h : decode c with
  | ok i => exact .inl ⟨i, rfl, by simp [runCommand, h]⟩
  | error e => exact .inr ⟨e, rfl, by simp [runCommand, h]⟩

/-! ### One group of a response -/

/-- A group whose CRC fails ends the loop, the bytes after it left over (42 R146, R147). -/
theorem runGroups_bad (mode : ReadMode) (c d0 d1 g : Byte) (rest : List Byte)
    (h : groupOk d0 d1 g = false) :
    runGroups mode c (d0 :: d1 :: g :: rest) =
      { ok := false, out := [], crc := crc8 d0 d1, left := rest } := by
  simp [runGroups, h]

/-- The terminator is kept and ends the loop (42 R146). -/
theorem runGroups_terminator (mode : ReadMode) (c d0 d1 g : Byte) (rest : List Byte)
    (h : groupOk d0 d1 g = true) (ht : isTerminator mode d0 d1 = true) :
    runGroups mode c (d0 :: d1 :: g :: rest) =
      { ok := true, out := [d0, d1], crc := crc8 d0 d1, left := rest } := by
  simp [runGroups, h, ht]

/-- Any other valid group is kept, and the loop goes on (42 R142). -/
theorem runGroups_next (mode : ReadMode) (c d0 d1 g : Byte) (rest : List Byte)
    (h : groupOk d0 d1 g = true) (ht : isTerminator mode d0 d1 = false) :
    runGroups mode c (d0 :: d1 :: g :: rest) =
      { runGroups mode (crc8 d0 d1) rest with
        out := d0 :: d1 :: (runGroups mode (crc8 d0 d1) rest).out } := by
  simp [runGroups, h, ht]

end Sys2Proof.Machine
end

