-- ==== Sys2Proof/Laws/PerInstr.lean ====
section
/-! SUPPORT. Per command: its encoding carries the fixed bits of its row of spec/opcode_table.json. -/

namespace Sys2Proof.Laws.TableRow

/-- The mask of the row (spec/opcode_table.json, "mask"). -/
def mask : Instr → CmdWord
  | .crc8 _ _ => 0xFFFF0000
  | .check _ _ _ => 0xFF000000
  | .write _ _ => 0xFF000000
  | .readf _ => 0xFF00FFFF
  | .readz _ => 0xFF00FFFF

/-- The fixed bits of the row (spec/opcode_table.json, "match"). -/
def fixedBits : Instr → CmdWord
  | .crc8 _ _ => 0x10000000
  | .check _ _ _ => 0x20000000
  | .write _ _ => 0x30000000
  | .readf _ => 0x40000000
  | .readz _ => 0x50000000

/-- The encoding of `i` lies in its row of the opcode table. -/
def Statement (i : Instr) : Prop := encode i &&& mask i = fixedBits i

theorem crc8 (b0 b1 : Byte) : Statement (.crc8 b0 b1) := by
  unfold Statement encode mask fixedBits
  ext i hi
  simp only [BitVec.getElem_and, BitVec.getElem_append]
  interval_cases i <;> simp

theorem check (b0 b1 c : Byte) : Statement (.check b0 b1 c) := by
  unfold Statement encode mask fixedBits
  ext i hi
  simp only [BitVec.getElem_and, BitVec.getElem_append]
  interval_cases i <;> simp

theorem write (n : BitVec 8) (op : Word) : Statement (.write n op) := by
  unfold Statement encode mask fixedBits
  ext i hi
  simp only [BitVec.getElem_and, BitVec.getElem_append]
  interval_cases i <;> simp

theorem readf (n : BitVec 8) : Statement (.readf n) := by
  unfold Statement encode mask fixedBits
  ext i hi
  simp only [BitVec.getElem_and, BitVec.getElem_append]
  interval_cases i <;> simp

theorem readz (n : BitVec 8) : Statement (.readz n) := by
  unfold Statement encode mask fixedBits
  ext i hi
  simp only [BitVec.getElem_and, BitVec.getElem_append]
  interval_cases i <;> simp

end Sys2Proof.Laws.TableRow
end

