-- ==== Sys2Proof/Tests/Slice0.lean ====
section
/-! SUPPORT. Tests whose expected results come from spec/ (95_test_vectors.md unless another file is named), and
for each statement with hypotheses a state and operands that meet them. -/

-- One theorem at a time: the kernel evaluations then need little memory.
set_option Elab.async false

namespace Sys2Proof.Tests

open Sys2Proof Sys2Proof.Machine

/-- The state after a next outcome has the property. -/
def nextHas (o : Host.Outcome State Fault Refusal) (p : State → Bool) : Bool :=
  match o with
  | .next s => p s
  | .fault _ => false
  | .refused _ => false

/-- The outcome is a next state. -/
def isNext (o : Host.Outcome State Fault Refusal) : Bool := nextHas o fun _ => true

theorem exists_next {o : Host.Outcome State Fault Refusal} (h : isNext o = true) : ∃ t, o = .next t := by
  cases o with
  | next s => exact ⟨s, rfl⟩
  | fault f => cases h
  | refused f => cases h

/-- One step that runs the command word `c`. -/
def runWord (c : Nat) (s : State) : Host.Outcome State Fault Refusal := step (s.withFetchWord 32 c)

/-- Reset, then BUSADDR = 0x2A, the words in TXW, and the transport's next write answer (95 section 3). -/
def loaded (ws : List Word) (a : WriteAnswer) : State :=
  { State.reset with
    busaddr := 0x2A
    txw := ws.map (TxwReg.mk · true) ++ List.replicate (8 - ws.length) { value := 0, written := false }
    writeAnswers := [a] }

/-- Reset, then BUSADDR = 0x2A and the transport's next read answer (95 section 4). -/
def answering (a : ReadAnswer) : State := { State.reset with busaddr := 0x2A, readAnswers := [a] }

/-- Bytes from numbers. -/
def hex (l : List Nat) : List Byte := l.map (BitVec.ofNat 8)

/-! ### Decoding: words written out from the encodings of opcode_table.json -/

theorem test_decode_crc8 :
    decode 0b00010000000000001011111011101111 = .ok (.crc8 0xBE 0xEF) := by decide

theorem test_decode_check :
    decode 0b00100000100100101011111011101111 = .ok (.check 0xBE 0xEF 0x92) := by decide

theorem test_decode_write :
    decode 0b00110000000000100001001000110100 = .ok (.write 2 0x1234) := by decide

theorem test_decode_readf :
    decode 0b01000000000011100000000000000000 = .ok (.readf 14) := by decide

theorem test_decode_readz :
    decode 0b01010000000011000000000000000000 = .ok (.readz 12) := by decide

/-- 95 section 5: the reserved words, each by the name of its reason. -/
theorem test_decode_reserved :
    [0x00000000, 0x0000BEEF, 0x6000BEEF, 0xF0000000].all (decide <| decode · = .error .reservedOp) ∧
    [0x1100BEEF, 0x2192BEEF, 0x3F021234].all (decide <| decode · = .error .reservedRsv) ∧
    [0x1001BEEF, 0x40048000, 0x50060001].all (decide <| decode · = .error .reservedField) := by decide

/-- The encoder writes the same words (30 R85). -/
theorem test_encode :
    encode (.crc8 0xBE 0xEF) = 0x1000BEEF ∧ encode (.check 0xBE 0xEF 0x93) = 0x2093BEEF ∧
    encode (.write 3 0x6012) = 0x30036012 ∧ encode (.readf 4) = 0x40040000 ∧
    encode (.readz 12) = 0x500C0000 := by decide

theorem test_decodeTableWord :
    decodeTableWord 32 0x30C81234 = some (.write 200 0x1234) ∧ decodeTableWord 32 0x40040001 = none := by
  decide

/-! ### The assembler's checks: one ill-formed line for each -/

theorem test_line_u8 :
    Line.wellFormed (.crc8 256 0) = false ∧ Line.wellFormed (.crc8 0 256) = false ∧
    Line.wellFormed (.check 0 0 256) = false ∧ Line.wellFormed (.verify 256 0 0) = false ∧
    Line.wellFormed (.readf 256) = false ∧ Line.wellFormed (.readstr 256) = false ∧
    Line.wellFormed (.readz 255) = true := by decide

theorem test_line_u16 :
    Line.wellFormed (.write 0 65536) = false ∧ Line.wellFormed (.write 256 1) = false ∧
    Line.wellFormed (.send 65536) = false ∧ Line.wellFormed (.writew 1 [65536]) = false ∧
    Line.wellFormed (.setTxw 0 65536) = false ∧ Line.wellFormed (.write 255 0) = true := by decide

theorem test_line_s16 :
    Line.wellFormed (.writes 1 [32768]) = false ∧ Line.wellFormed (.writes 1 [-32769]) = false ∧
    Line.wellFormed (.writes 1 [-32768, 32767]) = true := by decide

theorem test_line_u32 :
    Line.wellFormed (.setCmd 0x100000000) = false ∧ Line.wellFormed (.setBusaddr 0x100000000) = false ∧
    Line.wellFormed (.setCmd 0xFFFFFFFF) = true := by decide

theorem test_instr_wellFormed : Instr.wellFormed (.write 255 0x0000) = true := by decide

/-! ### The assembler's text (30 R85, R86; the lines are those of 95 section 6) -/

theorem test_text_check :
    assembleText "check 0xBE, 0xEF, 0x92".toList = some [.write .cmd 0x2092BEEF] := by decide +kernel

theorem test_text_capitals : assembleText "READF 4".toList = some [.write .cmd 0x40040000] := by
  decide +kernel

/-- Program P2's line (its braces are the characters 123 and 125). -/
theorem test_text_writes :
    assembleText ("writes 0x6012, ".toList ++ [Char.ofNat 123] ++ "-200, 1000, 0".toList ++ [Char.ofNat 125]) =
      some [.write (.txw 0) 0xFF38, .write (.txw 1) 0x03E8, .write (.txw 2) 0, .write .cmd 0x30036012] := by
  decide +kernel

/-- A sign is for writes only (log entry 11). -/
theorem test_text_writew_sign :
    let line (m ns : String) := m.toList ++ " 1, ".toList ++ [Char.ofNat 123] ++ ns.toList ++ [Char.ofNat 125]
    assembleText (line "writew" "5") = some [.write (.txw 0) 5, .write .cmd 0x30010001] ∧
    assembleText (line "writew" "-0") = none ∧ assembleText (line "writew" "5, -1") = none ∧
    assembleText (line "writes" "-0") = some [.write (.txw 0) 0, .write .cmd 0x30010001] := by decide +kernel

theorem test_text_actions :
    assembleText "TXW[1] <- 0x1111".toList = some [.write (.txw 1) 0x1111] ∧
    assembleText "BUSADDR <- 0x2A".toList = some [.write .busaddr 0x2A] ∧
    assembleText "CMD <- 0x00000000".toList = some [.write .cmd 0] ∧
    assembleText "read RXD[3]".toList = some [.read (.rxd 3)] ∧
    assembleText "read STATUS".toList = some [.read .status] := by decide +kernel

/-- Program P3's last line and one of its comments (log entry 11). -/
theorem test_text_range_and_blank :
    assembleText "read RXD[0] .. RXD[3]".toList =
      some [.read (.rxd 0), .read (.rxd 1), .read (.rxd 2), .read (.rxd 3)] ∧
    assembleText "; host sees STATUS = Protocol, asks again".toList = some [] ∧
    assembleText "  ".toList = some [] := by decide +kernel

/-- A range that runs down, or over two arrays, is refused. -/
theorem test_line_range :
    Line.wellFormed (.readRange (.rxd 3) (.rxd 0)) = false ∧
    Line.wellFormed (.readRange (.rxd 0) (.txf 3)) = false ∧
    Line.wellFormed (.readRange (.rxd 3) (.rxd 3)) = true := by decide

theorem test_text_rejected :
    assembleText "crc8 256, 0".toList = none ∧ assembleText "crc8 1".toList = none ∧
    assembleText "frob 1".toList = none := by decide +kernel

/-! ### The commands: vectors of 95 sections 2 to 4, one step each -/

/-- C-4: a word whose CRC is zero. -/
theorem test_C4 : nextHas (runWord 0x1000FF00 State.reset)
    (fun t => t.status = 0 && t.crcout = 0x00 && t.crc = 0x00) = true := by decide +kernel

/-- C-6: byte order matters. -/
theorem test_C6 : nextHas (runWord 0x10000100 State.reset)
    (fun t => t.status = 0 && t.crcout = 0x75) = true := by decide +kernel

/-- K-3: a mismatch still writes CRCOUT. -/
theorem test_K3 : nextHas (runWord 0x2092BFEF State.reset)
    (fun t => t.status = 8 && t.crcout = 0x66) = true := by decide +kernel

/-- K-7: an undetected 4-bit error. -/
theorem test_K7 : nextHas (runWord 0x20B13EEF State.reset)
    (fun t => t.status = 0 && t.crcout = 0xB1) = true := by decide +kernel

/-- W-11: three words, one call, the frame in TXF. -/
theorem test_W11 : nextHas (runWord 0x30036012 (loaded [0x03E8, 0xFFFF, 0x8000] .ok))
    (fun t => t.status = 0 && t.txlen = 11 &&
      t.txf.take 11 = hex [0x60, 0x12, 0x03, 0xE8, 0xD4, 0xFF, 0xFF, 0xAC, 0x80, 0x00, 0xA2] &&
      t.calls = [.write 0x2A (t.txf.take 11)]) = true := by decide +kernel

/-- W-10: the transport's Timeout is reported, and the frame is kept. -/
theorem test_W10 : nextHas (runWord 0x30021234 (loaded [0xBEEF, 0x0000] (.error .timeout)))
    (fun t => t.status = 7 && t.txlen = 8 &&
      t.txf.take 8 = hex [0x12, 0x34, 0xBE, 0xEF, 0x92, 0x00, 0x00, 0x81]) = true := by decide +kernel

/-- W-6: the sentinel comes before the count. -/
theorem test_W6 : nextHas (runWord 0x30C80000 State.reset)
    (fun t => t.status = 2 && t.txlen = 0 && t.calls = []) = true := by decide +kernel

/-- W-15: an unwritten word. -/
theorem test_W15 : runWord 0x30011234 State.reset = .fault (.unwrittenTxw 0) := by rfl

/-- D-4: seven groups. -/
theorem test_D4 : nextHas (runWord 0x400E0000 (answering (.bytes (hex
      [0x00, 0x0A, 0x5A, 0x00, 0x14, 0x06, 0x01, 0x04, 0xB1, 0x01, 0x2C, 0x8E, 0x02, 0x8A, 0xF9,
       0xFF, 0x38, 0x7C, 0x00, 0x64, 0xFE]))))
    (fun t => t.status = 0 && t.rxlen = 14 && t.rxq = [] && t.calls = [.read 0x2A 21] &&
      t.rxd.take 14 = hex [0x00, 0x0A, 0x00, 0x14, 0x01, 0x04, 0x01, 0x2C, 0x02, 0x8A, 0xFF, 0x38, 0x00, 0x64] &&
      signedDataWord t 5 = -200) = true := by
  decide +kernel

/-- D-18: with N odd, the CRC is checked before the assembled count. -/
theorem test_D18 : nextHas (runWord 0x40050000
      (answering (.bytes (hex [0x41, 0x42, 0xA3, 0x43, 0x44, 0xDD]))))
    (fun t => t.status = 8 && t.rxlen = 0) = true := by decide +kernel

/-- Z-10: {36, 00} is data, {0,0} ends the string, the rest is drained unchecked. -/
theorem test_Z10 : nextHas (runWord 0x500C0000 (answering (.bytes (hex
      [0x53, 0x45, 0x83, 0x4E, 0x36, 0x06, 0x36, 0x00, 0x69, 0x00, 0x00, 0x81, 0xFF, 0xFF, 0xFF, 0xFF, 0xFF, 0xFF]))))
    (fun t => t.status = 0 && t.rxlen = 8 && t.rxq = [] &&
      t.rxd.take 8 = hex [0x53, 0x45, 0x4E, 0x36, 0x36, 0x00, 0x00, 0x00]) = true := by decide +kernel

/-- D-16: the terminator's CRC is checked. -/
theorem test_D16 : nextHas (runWord 0x50020000 (answering (.bytes (hex [0x00, 0x00, 0x80]))))
    (fun t => t.status = 8 && t.rxlen = 0) = true := by decide +kernel

/-- D-23: a reserved word writes STATUS only. -/
theorem test_D23 : runWord 0x40040001 State.reset = .next { State.reset with status := 4 } := by rfl

/-- 95 V3: the loop over the bytes of "123456789" gives 0xF7. -/
theorem test_crc_catalogue :
    (hex [0x31, 0x32, 0x33, 0x34, 0x35, 0x36, 0x37, 0x38, 0x39]).foldl crcByte crcInit = 0xF7 := by
  decide +kernel

/-- 10 R36: a host access outside an array is refused, and so is a read of CMD (R21). -/
theorem test_host_refused :
    hostRead (.txf 26) State.reset = .refused (.noSuchRegister (.txf 26)) ∧
    hostWrite (.txw 8) 1 State.reset = .refused (.noSuchRegister (.txw 8)) ∧
    hostRead .cmd State.reset = .refused .readOfCmd := ⟨rfl, rfl, rfl⟩

/-- 95 P6: after reset RXD[0] faults, and the scalars are at their reset values. -/
theorem test_P6_reset : nextHas (hostAccess .reset { answering (.error .timeout) with crcout := 0x92, rxlen := 2, status := 8 })
    (fun t => t.status = 0 && t.crcout = 0 && t.rxlen = 0 && t.busaddr = 0) = true := by decide +kernel

/-! ### Each row of the table runs as the first command after reset (its operand bits 0) -/

theorem test_first_command :
    [0x10000000, 0x20000000, 0x30000000, 0x40000000, 0x50000000].all
      (fun w => isNext (runWord w State.reset)) = true := by decide +kernel

/-! ### Witnesses: the hypotheses of the statements can be met -/

/-- A group whose CRC is right, and a terminator (95 V1, C-2). -/
def goodThenZero : List Byte := hex [0xBE, 0xEF, 0x92, 0x00, 0x00, 0x81]

theorem witness_StepRunsDecodedCommand :
    (∃ (s : State) (c : CmdWord) (i : Instr), s.hostq = [.write .cmd c] ∧ decode c = .ok i) ∧
    (∃ (s : State) (c : CmdWord) (e : DecodeReject), s.hostq = [.write .cmd c] ∧ decode c = .error e) ∧
    ∃ s : State, s.hostq = [.read .cmd] :=
  ⟨⟨{ State.reset with hostq := [.write .cmd 0x10000000] }, 0x10000000, .crc8 0 0, rfl, by decide⟩,
   ⟨{ State.reset with hostq := [.write .cmd 0] }, 0, .reservedOp, rfl, by decide⟩,
   ⟨{ State.reset with hostq := [.read .cmd] }, rfl⟩⟩

theorem witness_IdleKeepsState : State.reset.hostq = [] := rfl

theorem witness_EncodeDecodeRoundTrip : decode 0x30FFFFFF = .ok (.write 0xFF 0xFFFF) := by decide

theorem witness_ReservedWordsExactly :
    (0x6000BEEF : CmdWord).extractLsb' 28 4 = 6 ∧ (0x50060000 : CmdWord).extractLsb' 28 4 = 5 ∧
    (0x1001BEEF : CmdWord).extractLsb' 16 8 ≠ 0 ∧ (0x0F000000 : CmdWord).extractLsb' 24 4 ≠ 0 := by decide

theorem witness_CrcDetectsThreeBitErrors :
    [0] ∈ choices 1 (List.range 24) ∧ [22, 23] ∈ choices 2 (List.range 24) ∧
    [0, 1, 2] ∈ choices 3 (List.range 24) := by decide +kernel

theorem witness_Crc8Command :
    ((0x1100BEEF : CmdWord).extractLsb' 28 4 = 1 ∧ (0x1100BEEF : CmdWord).extractLsb' 24 4 ≠ 0) ∧
    ((0x1001BEEF : CmdWord).extractLsb' 28 4 = 1 ∧ (0x1001BEEF : CmdWord).extractLsb' 16 8 ≠ 0) ∧
    ((0x1000BEEF : CmdWord).extractLsb' 28 4 = 1 ∧ (0x1000BEEF : CmdWord).extractLsb' 24 4 = 0 ∧
      (0x1000BEEF : CmdWord).extractLsb' 16 8 = 0) := by decide

theorem witness_CheckCommand :
    ((0x2192BEEF : CmdWord).extractLsb' 28 4 = 2 ∧ (0x2192BEEF : CmdWord).extractLsb' 24 4 ≠ 0) ∧
    ((0x2092BEEF : CmdWord).extractLsb' 28 4 = 2 ∧ (0x2092BEEF : CmdWord).extractLsb' 24 4 = 0) ∧
    isNext (exec (.check 0xBF 0xEF 0x92) State.reset) = true := by decide +kernel

theorem witness_CheckIsTheDecodersTest :
    2 ≤ (4 : BitVec 8).toNat ∧ (4 : BitVec 8).toNat ≤ (answering (.bytes goodThenZero)).cfg.maxRxData ∧
    readAnswer (answering (.bytes goodThenZero)) = .bytes goodThenZero ∧
    goodThenZero.length = 3 * ((4 : BitVec 8).toNat / 2) := by decide +kernel

theorem witness_FrameLayout :
    ([0xBEEF, 0x0000] : List Word)[1]? = some 0x0000 ∧ Config.sample.Valid ∧
    (List.replicate 8 (0 : Word)).length ≤ Config.sample.maxTxWords := by decide

theorem witness_SignedParameterPattern :
    ((-32768 : Int) ≤ -32768 ∧ (-32768 : Int) ≤ 32767 ∧ (-32768 : Int) < 0) ∧
    ((-32768 : Int) ≤ 32767 ∧ (32767 : Int) ≤ 32767 ∧ (0 : Int) ≤ 32767) ∧
    [(0 : Int), -200][1]? = some (-200) := by decide

/-- The four cases of WRITE: the sentinel; 9 words; 8 words, all loaded; 1 word, not loaded. -/
theorem witness_WriteCommand :
    ((0x0000 : Word) = 0) ∧
    ((0x1234 : Word) ≠ 0 ∧ State.reset.cfg.maxTxWords < (9 : BitVec 8).toNat) ∧
    ((0x1234 : Word) ≠ 0 ∧ (8 : BitVec 8).toNat ≤ (loaded (List.replicate 8 0) .ok).cfg.maxTxWords ∧
      ∀ k < (8 : BitVec 8).toNat, txwWritten (loaded (List.replicate 8 0) .ok) k = true) ∧
    ((0x1234 : Word) ≠ 0 ∧ (1 : BitVec 8).toNat ≤ State.reset.cfg.maxTxWords ∧
      ∃ k < (1 : BitVec 8).toNat, txwWritten State.reset k = false) := by
  refine ⟨by decide, by decide, by decide +kernel, by decide, by decide, 0, by decide, by decide⟩

theorem witness_WriteCommand_answers :
    writeAnswer (loaded [] .ok) = .ok ∧ writeAnswer (loaded [] (.error .protocol)) = .error .protocol ∧
    writeAnswer (loaded [] (.error .timeout)) = .error .timeout := by decide

theorem witness_WriteCheckOrder :
    (∃ e, decode 0x31000000 = .error e) ∧
    ((0x1234 : Word) ≠ 0 ∧ State.reset.cfg.maxTxWords < (255 : BitVec 8).toNat) ∧
    ((0x1234 : Word) ≠ 0 ∧ (0 : BitVec 8).toNat ≤ State.reset.cfg.maxTxWords ∧
      ∃ t, exec (.write 0 0x1234) State.reset = .next t) :=
  ⟨⟨.reservedRsv, by decide⟩, by decide, by decide, by decide, exists_next (by decide +kernel)⟩

theorem witness_EncoderRoundTrip :
    (0 < [(0xBEEF : Word)].length) ∧
    (let s := answering (.bytes ((frame 0x1234 [0xBEEF]).drop 2))
     1 ≤ [(0xBEEF : Word)].length ∧ 2 * [(0xBEEF : Word)].length ≤ s.cfg.maxRxData ∧
      2 * [(0xBEEF : Word)].length ≤ 255 ∧ readAnswer s = .bytes ((frame 0x1234 [0xBEEF]).drop 2)) := by
  decide +kernel

/-- READF's cases: N = 1 and 33 out of range; an error; a short response; a bad group; valid groups with N odd
and with N even, up to the largest N. -/
theorem witness_ReadfCommand :
    ¬ (2 ≤ (1 : BitVec 8).toNat) ∧ ¬ ((33 : BitVec 8).toNat ≤ State.reset.cfg.maxRxData) ∧
    (32 : BitVec 8).toNat ≤ State.reset.cfg.maxRxData ∧
    readAnswer (answering (.error .timeout)) = .error .timeout ∧
    readAnswer (answering (.bytes [])) = .bytes [] ∧
    readAnswer (answering (.bytes goodThenZero)) = .bytes goodThenZero ∧
    goodThenZero.length = 3 * ((4 : BitVec 8).toNat / 2) ∧
    goodThenZero.length = 3 * ((5 : BitVec 8).toNat / 2) ∧
    (∀ k < (4 : BitVec 8).toNat / 2, GroupValid goodThenZero k) ∧
    ¬ GroupValid (hex [0xBE, 0xEF, 0x93]) 0 := by decide +kernel

/-- READZ's cases: the terminator is group 1 of 2; no terminator; a bad terminator. -/
theorem witness_ReadzCommand :
    (Consumed .zero goodThenZero 2 1 ∧ GroupZero goodThenZero 1) ∧
    (∀ k < 1, ¬ GroupZero (hex [0xBE, 0xEF, 0x92]) k) ∧
    (Consumed .zero (hex [0x00, 0x00, 0x80]) 1 0 ∧ ¬ GroupValid (hex [0x00, 0x00, 0x80]) 0) := by
  refine ⟨⟨⟨by decide, fun _ => ?_⟩, by decide⟩, by decide, ⟨by decide, fun _ => ?_⟩, by decide +kernel⟩ <;>
    decide

/-- A word of each of WRITE, READF and READZ with legal fields, and a reserved one. -/
theorem witness_command_words :
    ((0x30021234 : CmdWord).extractLsb' 28 4 = 3 ∧ (0x30021234 : CmdWord).extractLsb' 24 4 = 0 ∧
      (0x3F021234 : CmdWord).extractLsb' 24 4 ≠ 0) ∧
    ((0x40040000 : CmdWord).extractLsb' 28 4 = 4 ∧ (0x40040000 : CmdWord).extractLsb' 24 4 = 0 ∧
      (0x40040000 : CmdWord).extractLsb' 0 16 = 0 ∧ (0x40040001 : CmdWord).extractLsb' 0 16 ≠ 0) ∧
    ((0x50060000 : CmdWord).extractLsb' 28 4 = 5 ∧ (0x50060000 : CmdWord).extractLsb' 24 4 = 0 ∧
      (0x50060000 : CmdWord).extractLsb' 0 16 = 0 ∧ (0x51060000 : CmdWord).extractLsb' 24 4 ≠ 0) := by decide

theorem witness_ReadCountRange :
    ((1 : BitVec 8).toNat < 2) ∧ (State.reset.cfg.maxRxData < (33 : BitVec 8).toNat) ∧
    (2 ≤ (2 : BitVec 8).toNat ∧ (2 : BitVec 8).toNat ≤ State.reset.cfg.maxRxData) := by decide

/-- The reads of a state answer a next state; one ends with OK, one does not. -/
theorem witness_reads_answer :
    nextHas (exec (readInstr .zero 4) (answering (.bytes goodThenZero))) (fun t => t.status = 0) = true ∧
    nextHas (exec (readInstr .fixed 5) (answering (.bytes goodThenZero))) (fun t => t.status ≠ 0) = true := by
  decide +kernel

theorem witness_ReadsDrainTheQueue : ∃ t, exec (readInstr .fixed 4) State.reset = .next t := ⟨_, rfl⟩

theorem witness_FailedReadLeaves : ∃ t, exec (readInstr .fixed 1) State.reset = .next t ∧ t.status ≠ 0 :=
  ⟨_, rfl, by decide⟩

theorem witness_ReadOutputIsTheDataBytes :
    ∃ t, exec (readInstr .fixed 2) (answering (.bytes (hex [0x00, 0x64, 0xFE]))) = .next t ∧ t.status = 0 :=
  ⟨_, rfl, by decide +kernel⟩

/-- One flipped bit (bit 0 of the CRC byte) in the terminator's group. -/
theorem witness_CorruptionIsDetected :
    let l := goodThenZero
    let l' := hex [0xBE, 0xEF, 0x92, 0x00, 0x00, 0x80]
    2 ≤ (4 : BitVec 8).toNat ∧ (4 : BitVec 8).toNat ≤ (answering (.bytes l')).cfg.maxRxData ∧
    l.length = 3 * ((4 : BitVec 8).toNat / 2) ∧ l'.length = l.length ∧ readAnswer (answering (.bytes l')) = .bytes l' ∧
    Consumed .zero l ((4 : BitVec 8).toNat / 2) 1 ∧ GroupValid l 1 ∧ 1 ≤ 1 ∧ 1 ≤ 3 ∧ [0] ∈ choices 1 (List.range 24) ∧
    group24 (byteAt l' 3) (byteAt l' 4) (byteAt l' 5) =
      group24 (byteAt l 3) (byteAt l 4) (byteAt l 5) ^^^ flipMask [0] ∧
    ∀ i, i < 3 * 1 ∨ 3 * 1 + 3 ≤ i → byteAt l' i = byteAt l i := by
  refine ⟨by decide, by decide, by decide, by decide, by decide, ⟨by decide, fun _ => by decide⟩,
    by decide +kernel, by decide, by decide, by decide, by decide, fun i h => ?_⟩
  rcases h with h | h
  · have : i = 0 ∨ i = 1 ∨ i = 2 := by omega
    rcases this with rfl | rfl | rfl <;> decide
  · simp only [byteAt]
    rw [List.getElem?_eq_none (by simp [hex]; omega), List.getElem?_eq_none (by simp [goodThenZero, hex]; omega)]

/-- Two responses that differ after the terminator only. -/
theorem witness_CorruptionIsDetected_drained :
    let l := hex [0x00, 0x00, 0x81, 0x12, 0x34, 0x37]
    let l' := hex [0x00, 0x00, 0x81, 0x12, 0x34, 0x00]
    (4 : BitVec 8).toNat ≤ State.reset.cfg.maxRxData ∧ l'.length = l.length ∧
    Consumed .zero l ((4 : BitVec 8).toNat / 2) 0 ∧ GroupZero l 0 ∧
    ∀ i < 3 * (0 + 1), byteAt l' i = byteAt l i :=
  ⟨by decide, by decide, ⟨by decide, fun _ => by decide⟩, by decide, by decide⟩

theorem witness_LengthCornerCases :
    (5 ≤ State.reset.cfg.maxRxData ∧ goodThenZero.length = 6 ∧ GroupValid goodThenZero 0 ∧
      GroupValid goodThenZero 1) ∧
    ((32 : BitVec 8).toNat = State.reset.cfg.maxRxData ∧ (33 : BitVec 8).toNat = State.reset.cfg.maxRxData + 1) ∧
    (hex [0, 0, 0x81, 0, 0, 0x81, 0, 0, 0x81]).length = 3 * ((4 : BitVec 8).toNat / 2) + 3 := by
  decide +kernel

theorem witness_ZeroTerminatedScenario :
    let l := hex [0x41, 0x42, 0xA3, 0x00, 0x00, 0x81, 0xFF, 0xFF, 0xFF]
    2 ≤ (6 : BitVec 8).toNat ∧ (6 : BitVec 8).toNat ≤ (answering (.bytes l)).cfg.maxRxData ∧
    readAnswer (answering (.bytes l)) = .bytes l ∧ l.length = 3 * ((6 : BitVec 8).toNat / 2) ∧
    1 + 1 < (6 : BitVec 8).toNat / 2 ∧ (∀ k ≤ 1, GroupValid l k) ∧ (∀ k < 1, ¬ GroupZero l k) ∧
    GroupZero l 1 := by decide +kernel

/-- A word of each kind of command, and a reserved one, answers a next state: the hypothesis of the statements
about `runCommand`, with the operands of its clauses. -/
theorem witness_runCommand :
    [0x1000BEEF, 0x2092BEEF, 0x30001234, 0x30000000, 0x30091234, 0x40040000, 0x50050000, 0x40010000, 0].all
      (fun c => isNext (runCommand (BitVec.ofNat 32 c) State.reset)) = true := by decide +kernel

/-- The causes of 60 R172 occur: InvalidParameter, UnknownCommand, DataLength, Timeout, Protocol. -/
theorem witness_StatusCauses :
    nextHas (runCommand 0x30091234 State.reset) (fun t => t.status = 4) = true ∧
    nextHas (runCommand 0x30000000 State.reset) (fun t => t.status = 2) = true ∧
    nextHas (runCommand 0x40050000 (answering (.bytes goodThenZero))) (fun t => t.status = 1) = true ∧
    nextHas (runCommand 0x40050000 (answering (.error .timeout))) (fun t => t.status = 7) = true ∧
    nextHas (runCommand 0x30001234 (loaded [] (.error .timeout))) (fun t => t.status = 7) = true ∧
    nextHas (runCommand 0x30001234 (loaded [] (.error .protocol))) (fun t => t.status = 8) = true ∧
    nextHas (runCommand 0x20933EEF State.reset) (fun t => t.status = 8) = true ∧
    nextHas (runCommand 0x50040000 (answering (.bytes []))) (fun t => t.status = 8) = true := by
  decide +kernel

theorem witness_TxlenRule : State.reset.cfg.Valid ∧ ∃ t, runCommand 0x30001234 State.reset = .next t :=
  ⟨by decide, exists_next (by decide +kernel)⟩

theorem witness_TxfRule :
    State.reset.cfg.Valid ∧ (∃ t, exec (.write 0 0x1234) State.reset = .next t) ∧
    (∃ t, exec (.write 0 0x0000) State.reset = .next t) ∧
    25 < State.reset.cfg.txfSize ∧ State.reset.txlen.toNat ≤ 25 :=
  ⟨by decide, exists_next (by decide +kernel), exists_next (by decide +kernel), by decide, by decide⟩

theorem witness_CommandWriteSets :
    (∃ t, exec (.crc8 0 0) State.reset = .next t) ∧ (∃ t, exec (.check 0 0 0) State.reset = .next t) ∧
    nextHas (exec (.write 0 0x1234) State.reset) (fun t => t.txlen ≠ 0) = true ∧
    (∃ e, decode 0 = .error e) ∧ ∃ t, runCommand 0 State.reset = .next t :=
  ⟨⟨_, rfl⟩, ⟨_, rfl⟩, by decide +kernel, ⟨.reservedOp, by decide⟩, ⟨_, rfl⟩⟩

theorem witness_HostAccessRules :
    (RegExists State.reset.cfg (.txf 25) ∧ Reg.txf 25 ≠ .cmd ∧ Reg.txf 25 ≠ .busaddr ∧ ∀ i, Reg.txf 25 ≠ .txw i) ∧
    ¬ RegExists State.reset.cfg (.txf 26) ∧ ¬ RegExists State.reset.cfg (.txw 8) ∧
    ¬ RegExists State.reset.cfg (.rxd 32) ∧ ∃ t, hostRead .status State.reset = .next t := by
  refine ⟨⟨by simp only [RegExists]; decide, by decide, by decide, by simp⟩, ?_, ?_, ?_, ⟨_, rfl⟩⟩ <;>
    simp only [RegExists] <;> decide

/-- The last readable element of each array of a state with 8 words loaded, a full frame, and 4 bytes received. -/
theorem witness_HostAccessRules_values :
    let s := { loaded (List.replicate 8 0xBEEF) .ok with txlen := 26, rxlen := 4 }
    (7 < s.cfg.maxTxWords ∧ txwWritten s 7 = true) ∧
    (25 < s.cfg.txfSize ∧ 25 < s.txlen.toNat ∧ s.txf[25]? = some 0x00) ∧
    (3 < s.cfg.maxRxData ∧ 3 < s.rxlen.toNat ∧ s.rxd[3]? = some 0x00) := by decide +kernel

theorem witness_UndefinedElementsFault :
    (7 < State.reset.cfg.maxTxWords ∧ txwWritten State.reset 7 = false) ∧
    (25 < State.reset.cfg.txfSize ∧ State.reset.txlen.toNat ≤ 25) ∧
    (31 < State.reset.cfg.maxRxData ∧ State.reset.rxlen.toNat ≤ 31) ∧
    ((0x1234 : Word) ≠ 0 ∧ (8 : BitVec 8).toNat ≤ State.reset.cfg.maxTxWords) ∧
    (State.reset.cfg.maxTxWords < (9 : BitVec 8).toNat ∧ isNext (exec (.write 9 0x1234) State.reset) = true) ∧
    nextHas (exec (readInstr .zero 1) State.reset) (fun t => t.status ≠ 0) = true := by decide +kernel

theorem witness_TxwHoldsWhatTheHostWrote :
    7 < State.reset.cfg.maxTxWords ∧ State.reset.txw.length = State.reset.cfg.maxTxWords := by decide

theorem witness_ParametersNeverChange : ∃ t, step State.reset = .next t := ⟨_, rfl⟩

/-- A WRITE and the reads make their call, the WRITE with an answer waiting and with none. -/
theorem witness_TransportCallsPerCommand :
    nextHas (runCommand 0x30001234 (loaded [] .ok)) (fun t => t.calls ≠ (loaded [] .ok).calls) = true ∧
    nextHas (runCommand 0x30001234 State.reset) (fun t => t.calls ≠ State.reset.calls) = true ∧
    nextHas (runCommand 0x40040000 (answering (.bytes goodThenZero))) (fun t => t.readAnswers = []) = true ∧
    nextHas (runCommand 0x50040000 (answering (.bytes []))) (fun t => t.readAnswers = [] && t.calls ≠ []) = true := by
  decide +kernel

theorem witness_AssembledWords :
    Reg.isRange (.rxd 3) (.rxd 0) = false ∧ Reg.isRange (.rxd 0) (.txf 3) = false ∧
    Reg.isRange .status .status = false := by decide

theorem witness_CrcCommandsRepeat :
    (∃ t, exec (.crc8 0xBE 0xEF) State.reset = .next t) ∧ ∃ t, exec (.check 0xBE 0xEF 0x93) State.reset = .next t :=
  ⟨⟨_, rfl⟩, ⟨_, rfl⟩⟩

/-- Two states with the same inputs and different result registers. -/
theorem witness_CommandsReadOnlyTheirInputs :
    let s := State.reset
    let t := { State.reset with crcout := 0x92, txlen := 2, rxlen := 2, status := 8 }
    s.cfg = t.cfg ∧ s.busaddr = t.busaddr ∧ s.txw = t.txw ∧ s.writeAnswers = t.writeAnswers ∧
    s.readAnswers = t.readAnswers ∧ s.free = t.free ∧ s ≠ t := by decide +kernel

theorem witness_StepCompletesExactlyWhenSafe :
    (State.withFetchWord State.reset 32 0x30011234).hostq = [.write .cmd 0x30011234] := by decide

theorem witness_InvariantHoldsAtReset :
    Config.Valid { Config.sample with maxTxWords := 84, maxRxData := 255 } ∧
    Config.Valid { Config.sample with maxTxWords := 1, maxRxData := 18 } := by decide

theorem witness_StepKeepsInvariant : State.reset.Inv ∧ ∃ t, step State.reset = .next t :=
  ⟨⟨by decide, by decide, by decide, by decide, rfl, .inl rfl, .inl rfl, by decide, by decide,
    by simp [State.reset, State.resetOf]⟩, ⟨_, rfl⟩⟩

/-- Two states that differ in `crc` and in an unwritten TXW element. -/
theorem witness_UndefinedValuesAreUnobservable :
    let t := { State.reset with
      crc := 0xAC
      txw := { value := 0x1234, written := false } :: List.replicate 7 { value := 0, written := false } }
    Indistinguishable State.reset t ∧ State.reset ≠ t := by
  refine ⟨⟨rfl, rfl, ⟨by decide, fun k => ?_⟩, rfl, rfl, rfl, ⟨rfl, fun _ _ => rfl⟩, rfl,
    ⟨rfl, fun _ _ => rfl⟩, rfl, rfl, rfl, rfl, rfl, rfl⟩, by decide +kernel⟩
  rcases k with _ | _ | _ | _ | _ | _ | _ | _ | k <;> constructor <;>
    simp [txwWritten, txwValue, State.reset, State.resetOf, Config.sample, List.replicate]

/-- Both forms of the queue, at the largest word count of the instance. -/
theorem witness_WritewSendsItsFrame :
    (let s := { State.reset with hostq := expand (.writew 0x1234 ((List.replicate 8 (0xBEEF : Word)).map BitVec.toNat)) }
     s.Inv ∧ (List.replicate 8 (0xBEEF : Word)).length ≤ s.cfg.maxTxWords) ∧
    (let s := { State.reset with hostq := expand (.writes 0xFFFF (([0xFF38] : List Word).map BitVec.toInt)) }
     s.Inv ∧ 0xFFFF < 65536) := by
  refine ⟨⟨⟨by decide, by decide, by decide, by decide, rfl, .inl rfl, .inl rfl, by decide, by decide,
      by simp [State.reset, State.resetOf]⟩, by decide⟩,
    ⟨⟨by decide, by decide, by decide, by decide, rfl, .inl rfl, .inl rfl, by decide, by decide,
      by simp [State.reset, State.resetOf]⟩, by decide⟩⟩

theorem witness_ListedReadLengthsAreLegal :
    readLength .measurement 0 = some 18 ∧ Config.Valid { Config.sample with maxRxData := 18 } := by decide

theorem witness_StepDoesTheNextAccess :
    (∃ s : State, s.hostq = [.write .busaddr 0x2A]) ∧ (∃ s : State, s.hostq = [.read (.rxd 0)]) ∧
    ∃ s : State, s.hostq = [.reset] :=
  ⟨⟨{ State.reset with hostq := [.write .busaddr 0x2A] }, rfl⟩,
   ⟨{ State.reset with hostq := [.read (.rxd 0)] }, rfl⟩, ⟨{ State.reset with hostq := [.reset] }, rfl⟩⟩

/-- CRC8 and CHECK; WRITE of 8 words, of none, and refused; a read that ends with OK. -/
theorem witness_EngineHoldsTheLastCrc :
    isNext (exec (.crc8 0xBE 0xEF) State.reset) = true ∧ isNext (exec (.check 0xBE 0xEF 0) State.reset) = true ∧
    (isNext (exec (.write 8 0x1234) (loaded (List.replicate 8 0) .ok)) = true ∧
      (8 : BitVec 8).toNat ≤ (loaded (List.replicate 8 0) .ok).cfg.maxTxWords) ∧
    isNext (exec (.write 0 0x1234) State.reset) = true ∧ isNext (exec (.write 9 0x1234) State.reset) = true ∧
    nextHas (exec (readInstr .zero 4) (answering (.bytes goodThenZero))) (fun t => t.status = 0) = true := by
  decide +kernel

end Sys2Proof.Tests
end

section
/-! The read lengths of 00 R16. They are even and between 2 and 18, whatever the instance; 18 is also the least
MAX_RX_DATA that 00 R10 allows, so each of them fits every valid instance. -/

namespace Sys2Proof

/-- 00 R10: MAX_RX_DATA is at least 18, so a length up to 18 fits every valid instance. -/
theorem Config.Valid.le_maxRxData {c : Config} (hc : c.Valid) {n : Nat} (hn : n ≤ 18) : n ≤ c.maxRxData := by
  obtain ⟨-, -, hmin, -⟩ := hc
  exact hn.trans hmin

theorem readLength_bounds_even {r : ReadSet} {v : Fin 5} {n : Nat} (h : readLength r v = some n) :
    2 ≤ n ∧ n ≤ 18 ∧ n % 2 = 0 := by
  have table : ∀ r v, ∀ n ∈ readLength r v, 2 ≤ n ∧ n ≤ 18 ∧ n % 2 = 0
    | .measurement => by decide
    | .rawValues => by decide
  exact table r v n h

theorem concentrationRead_bounds_even (reducedSet : Bool) :
    2 ≤ (concentrationRead reducedSet).1 ∧ (concentrationRead reducedSet).1 ≤ 18 ∧
      (concentrationRead reducedSet).1 % 2 = 0 := by
  cases reducedSet <;> decide

/-- Settles O53: every listed length is even and at most 18, the least MAX_RX_DATA of a valid instance. -/
theorem listedReadLengthsAreLegal : Obligations.ListedReadLengthsAreLegal := by
  unfold Obligations.ListedReadLengthsAreLegal
  constructor
  · intro r v n c h hc
    obtain ⟨hlow, hhigh, heven⟩ := readLength_bounds_even h
    exact ⟨hlow, hc.le_maxRxData hhigh, heven⟩
  · intro reducedSet c hc
    obtain ⟨hlow, hhigh, heven⟩ := concentrationRead_bounds_even reducedSet
    exact ⟨hlow, hc.le_maxRxData hhigh, heven⟩

end Sys2Proof
end

section
/-! What each command leaves in each register, stated once over all the ways it can end. -/

namespace Sys2Proof.Machine

/-! ### The read commands by their mode -/

@[simp] theorem readInstr_ne_crc8 (mode : ReadMode) (n : BitVec 8) (b0 b1 : Byte) :
    readInstr mode n ≠ .crc8 b0 b1 := by
  cases mode <;> exact Instr.noConfusion

@[simp] theorem readInstr_ne_check (mode : ReadMode) (n : BitVec 8) (b0 b1 c : Byte) :
    readInstr mode n ≠ .check b0 b1 c := by
  cases mode <;> exact Instr.noConfusion

@[simp] theorem readInstr_ne_write (mode : ReadMode) (n : BitVec 8) (m : BitVec 8) (op : Word) :
    readInstr mode n ≠ .write m op := by
  cases mode <;> exact Instr.noConfusion

/-! ### STATUS codes (60 R170, R171) -/

theorem statusCode_busErrorKind_ne_zero (e : BusError) : statusCode (busErrorKind e) ≠ 0 := by
  cases e <;> decide

theorem legalStatus_busErrorKind (e : BusError) : LegalStatus (statusCode (busErrorKind e)) := by
  cases e <;> decide

theorem legalStatus_writeAnswerKind : ∀ a : WriteAnswer, LegalStatus (statusCode (writeAnswerKind a))
  | .ok => by decide
  | .error e => legalStatus_busErrorKind e

/-! ### Frames (41 R126) -/

@[simp] theorem frame_length (op : Word) (ws : List Word) : (frame op ws).length = 2 + 3 * ws.length := by
  have groups : (ws.flatMap wordGroup).length = 3 * ws.length := by
    induction ws with
    | nil => rfl
    | cons w ws ih =>
      simp only [List.flatMap_cons, List.length_append, wordGroup, List.length_cons, List.length_nil, ih]
      omega
  simp only [frame, List.length_append, groups]
  rfl

/-- A frame of at most MAX_TX_WORDS words fits the 8-bit register TXLEN (00 R10, 10 R26). -/
theorem sendFrame_txlen_toNat {s : State} {ws : List Word} (op : Word) (hc : s.cfg.Valid)
    (hw : ws.length ≤ s.cfg.maxTxWords) : (sendFrame op ws s).txlen.toNat = (frame op ws).length := by
  obtain ⟨-, hmax, -, -⟩ := hc
  rw [sendFrame_txlen, frame_length, BitVec.toNat_ofNat, Nat.mod_eq_of_lt (by omega)]

/-- The engine after a nonempty list of words holds the last word's CRC (10 R34, log entry 12). -/
theorem crcOfWords_append_singleton (ws : List Word) (w : Word) (c : Byte) :
    crcOfWords (ws ++ [w]) c = crc8 (hiByte w) (loByte w) := by
  simp [crcOfWords]

theorem txWords_succ (s : State) (n : Nat) : txWords s (n + 1) = txWords s n ++ [txwValue s n] := by
  simp [txWords, List.range_succ]

/-! ### The loop over the groups of a response (42 R142) -/

/-- The loop tests and keeps the same bytes whatever the engine's register held before it. -/
theorem runGroups_ok_out_of_any_crc (mode : ReadMode) (c c' : Byte) (l : List Byte) :
    (runGroups mode c l).ok = (runGroups mode c' l).ok ∧ (runGroups mode c l).out = (runGroups mode c' l).out := by
  match l with
  | [] => exact ⟨rfl, rfl⟩
  | [_] => exact ⟨rfl, rfl⟩
  | [_, _] => exact ⟨rfl, rfl⟩
  | _ :: _ :: _ :: _ => exact ⟨rfl, rfl⟩

/-- Two bytes are kept of each group of three consumed (42 R150). -/
theorem runGroups_out_length (mode : ReadMode) (c : Byte) (l : List Byte) :
    (runGroups mode c l).out.length % 2 = 0 ∧ 3 * (runGroups mode c l).out.length ≤ 2 * l.length := by
  fun_induction runGroups mode c l with
  | case1 => simp
  | case2 => simp; omega
  | case3 c d0 d1 g rest hok ht r ih => simp only [List.length_cons, r] at *; omega
  | case4 => simp

/-- A response of the length asked for yields at most N data bytes (42 R141). -/
theorem runGroups_out_le (mode : ReadMode) (c : Byte) {l : List Byte} {n : Nat} (hl : l.length = requestLength n) :
    (runGroups mode c l).out.length ≤ n := by
  obtain ⟨-, hle⟩ := runGroups_out_length mode c l
  rw [hl, requestLength] at hle
  omega

/-- When no CRC fails, the engine is left with the CRC of the last two bytes kept, or untouched if none was kept
(10 R34, log entry 12). -/
theorem runGroups_crc (mode : ReadMode) (c : Byte) (l : List Byte) (hok : (runGroups mode c l).ok = true) :
    ((runGroups mode c l).out = [] ∧ (runGroups mode c l).crc = c) ∨
    ∃ before d0 d1, (runGroups mode c l).out = before ++ [d0, d1] ∧ (runGroups mode c l).crc = crc8 d0 d1 := by
  fun_induction runGroups mode c l with
  | case1 => cases hok
  | case2 c d0 d1 => exact .inr ⟨[], d0, d1, rfl, rfl⟩
  | case3 c d0 d1 g rest hg ht r ih =>
    rcases ih hok with ⟨hout, hcrc⟩ | ⟨before, e0, e1, hout, hcrc⟩
    · exact .inr ⟨[], d0, d1, by simp [r, hout], hcrc⟩
    · exact .inr ⟨d0 :: d1 :: before, e0, e1, by simp [r, hout], hcrc⟩
  | case4 => exact .inl ⟨rfl, rfl⟩

/-- A valid first group is kept, so a read that ends with OK returns a byte pair. -/
theorem runGroups_out_ne_nil (mode : ReadMode) (c : Byte) {l : List Byte} (hl : 3 ≤ l.length)
    (hok : (runGroups mode c l).ok = true) : (runGroups mode c l).out ≠ [] := by
  match l, hl with
  | d0 :: d1 :: g :: rest, _ =>
    cases hg : groupOk d0 d1 g with
    | false => simp [runGroups_bad mode c d0 d1 g rest hg] at hok
    | true =>
      cases ht : isTerminator mode d0 d1 with
      | true => simp [runGroups_terminator mode c d0 d1 g rest hg ht]
      | false => simp [runGroups_next mode c d0 d1 g rest hg ht]

/-! ### Reads: the write set and the two ways to end -/

/-- A read writes STATUS, RXLEN, RXD, `crc`, `rxq` and the record of its call only (10 R38). -/
theorem readDecode_frame (mode : ReadMode) (n : Nat) (s : State) :
    readDecode mode n s = { s with
      status := (readDecode mode n s).status, rxlen := (readDecode mode n s).rxlen
      rxd := (readDecode mode n s).rxd, crc := (readDecode mode n s).crc, rxq := (readDecode mode n s).rxq
      calls := (readDecode mode n s).calls, readAnswers := (readDecode mode n s).readAnswers
      free := (readDecode mode n s).free } := by
  rcases readDecode_outcomes mode n s with
    ⟨_, h⟩ | ⟨_, _, _, h⟩ | ⟨_, _, _, ⟨_, h⟩ | ⟨_, _, h⟩ | ⟨_, _, _, _, h⟩ | ⟨_, _, _, h⟩⟩ <;>
    simp [State.ext_iff, h]

section
variable (mode : ReadMode) (n : Nat) (s : State)

@[simp] theorem readDecode_cfg : (readDecode mode n s).cfg = s.cfg := by rw [readDecode_frame]
@[simp] theorem readDecode_busaddr : (readDecode mode n s).busaddr = s.busaddr := by rw [readDecode_frame]
@[simp] theorem readDecode_txw : (readDecode mode n s).txw = s.txw := by rw [readDecode_frame]
@[simp] theorem readDecode_crcout : (readDecode mode n s).crcout = s.crcout := by rw [readDecode_frame]
@[simp] theorem readDecode_txlen : (readDecode mode n s).txlen = s.txlen := by rw [readDecode_frame]
@[simp] theorem readDecode_txf : (readDecode mode n s).txf = s.txf := by rw [readDecode_frame]
@[simp] theorem readDecode_hostq : (readDecode mode n s).hostq = s.hostq := by rw [readDecode_frame]
@[simp] theorem readDecode_writeAnswers : (readDecode mode n s).writeAnswers = s.writeAnswers := by
  rw [readDecode_frame]
@[simp] theorem readDecode_readData : (readDecode mode n s).readData = s.readData := by rw [readDecode_frame]

end

/-- A read leaves the queue empty, and makes no call or, for an N in range, one (42 R142, R143, R147). -/
theorem readDecode_rxq_calls (mode : ReadMode) (n : Nat) (s : State) :
    (readDecode mode n s).rxq = [] ∧
    ((readDecode mode n s).calls = s.calls ∨
      ((2 ≤ n ∧ n ≤ s.cfg.maxRxData) ∧
        (readDecode mode n s).calls = s.calls ++ [.read s.busaddr (requestLength n)])) := by
  rcases readDecode_outcomes mode n s with
    ⟨_, h⟩ | ⟨hr, _, _, h⟩ | ⟨hr, _, _, ⟨_, h⟩ | ⟨_, _, h⟩ | ⟨_, _, _, _, h⟩ | ⟨_, _, _, h⟩⟩ <;> simp [h]
  all_goals exact hr

theorem failRead_results {k : Kind} (hfails : statusCode k ≠ 0) (hlegal : LegalStatus (statusCode k)) (s : State) :
    let t := failRead k s
    t.status ≠ 0 ∧ LegalStatus t.status ∧ t.rxlen = 0 ∧ t.rxd.length = s.rxd.length :=
  ⟨hfails, hlegal, rfl, freeBytes_length _ _⟩

/-- A read ends with a failure, RXLEN 0 and RXD free bytes, or with OK and the bytes kept (42 R142, R148). -/
theorem readDecode_fails_or_completes (mode : ReadMode) (n : Nat) (s : State) :
    let t := readDecode mode n s
    (t.status ≠ 0 ∧ LegalStatus t.status ∧ t.rxlen = 0 ∧ t.rxd.length = s.rxd.length) ∨
    (t.status = 0 ∧ (2 ≤ n ∧ n ≤ s.cfg.maxRxData) ∧ ∃ l, readAnswer s = .bytes l ∧ l.length = requestLength n ∧
      (runGroups mode s.crc l).ok = true ∧ t.crc = (runGroups mode s.crc l).crc ∧
      t.rxlen = BitVec.ofNat 8 (runGroups mode s.crc l).out.length ∧
      t.rxd = overlay (runGroups mode s.crc l).out s.rxd) := by
  rcases readDecode_outcomes mode n s with
    ⟨_, h⟩ | ⟨_, e, _, h⟩ | ⟨hr, l, ha, ⟨_, h⟩ | ⟨_, _, h⟩ | ⟨_, _, _, _, h⟩ | ⟨hl, hok, _, h⟩⟩ <;>
    simp only [h]
  · exact .inl (failRead_results (by decide) (by decide) _)
  · exact .inl (failRead_results (statusCode_busErrorKind_ne_zero e) (legalStatus_busErrorKind e) _)
  · exact .inl (failRead_results (by decide) (by decide) _)
  · exact .inl (failRead_results (by decide) (by decide) _)
  · exact .inl (failRead_results (by decide) (by decide) _)
  · exact .inr ⟨rfl, hr, l, ha, hl, hok, rfl, rfl, rfl⟩

/-- RXLEN after a read that ends with OK counts the bytes kept: they are at most N, which has 8 bits. -/
theorem rxlen_toNat_of_response (mode : ReadMode) (c : Byte) {l : List Byte} {n : BitVec 8}
    (hl : l.length = requestLength n.toNat) :
    (BitVec.ofNat 8 (runGroups mode c l).out.length).toNat = (runGroups mode c l).out.length := by
  have hle := runGroups_out_le mode c hl
  rw [BitVec.toNat_ofNat, Nat.mod_eq_of_lt (hle.trans_lt n.isLt)]

/-! ### What each command can answer -/

theorem execCheck_eq (b0 b1 c : Byte) (s : State) :
    execCheck b0 b1 c s = .next (raise (if groupOk b0 b1 c then .ok else .protocol) (crcToOut b0 b1 s)) := by
  unfold execCheck finish
  split <;> rfl

/-- The kind a WRITE that fails its checks reports: the sentinel is tested before the word count (60 R173). -/
def refusal (op : Word) : Kind := if op = 0x0000 then .unknownCommand else .invalidParameter

@[simp] theorem refusal_zero : refusal 0x0000 = .unknownCommand := if_pos rfl

theorem refusal_of_ne {op : Word} (h : op ≠ 0x0000) : refusal op = .invalidParameter := if_neg h

/-- A WRITE that passes its checks has neither the sentinel nor too many words. -/
theorem writeChecks_exclusive {n : BitVec 8} {op : Word} {s : State} {P : Prop} (h0 : op ≠ 0)
    (hn : n.toNat ≤ s.cfg.maxTxWords) (hbad : op = 0 ∨ s.cfg.maxTxWords < n.toNat) : P :=
  (hbad.elim h0 (Nat.not_lt.2 hn)).elim

/-- The next states of WRITE: its checks fail, or its frame is sent (41 R121). -/
theorem exec_write_next {n : BitVec 8} {op : Word} {s t : State} (h : exec (.write n op) s = .next t) :
    ((op = 0 ∨ s.cfg.maxTxWords < n.toNat) ∧ t = refuseFrame (refusal op) s) ∨
    (op ≠ 0 ∧ n.toNat ≤ s.cfg.maxTxWords ∧ (∀ k < n.toNat, txwWritten s k = true) ∧
      t = sendFrame op (txWords s n.toNat) s) := by
  rcases execWrite_cases n op s with ⟨h0, hw⟩ | ⟨h0, hn, hw⟩ | ⟨-, -, k, -, -, hw⟩ | ⟨h0, hn, hall, hw⟩ <;>
    have ht := hw.symm.trans h <;> cases ht
  · exact .inl ⟨.inl h0, by rw [h0, refusal_zero]⟩
  · exact .inl ⟨.inr hn, by rw [refusal_of_ne h0]⟩
  · exact .inr ⟨h0, hn, hall, rfl⟩

/-- Every next state a command can answer (30 R78): the two CRC commands write CRCOUT, WRITE refuses or sends a
frame, and the reads run the decoder. -/
theorem exec_next_cases {i : Instr} {s t : State} (h : exec i s = .next t) :
    (∃ b0 b1, i = .crc8 b0 b1 ∧ t = finish (crcToOut b0 b1 s)) ∨
    (∃ b0 b1 c, i = .check b0 b1 c ∧ t = raise (if groupOk b0 b1 c then .ok else .protocol) (crcToOut b0 b1 s)) ∨
    (∃ n op, i = .write n op ∧ (op = 0 ∨ s.cfg.maxTxWords < n.toNat) ∧ t = refuseFrame (refusal op) s) ∨
    (∃ n op, i = .write n op ∧ op ≠ 0 ∧ n.toNat ≤ s.cfg.maxTxWords ∧ (∀ k < n.toNat, txwWritten s k = true) ∧
      t = sendFrame op (txWords s n.toNat) s) ∨
    (∃ mode n, i = readInstr mode n ∧ t = readDecode mode n.toNat s) := by
  cases i with
  | crc8 b0 b1 => cases h; exact .inl ⟨b0, b1, rfl, rfl⟩
  | check b0 b1 c =>
    cases (execCheck_eq b0 b1 c s).symm.trans h
    exact .inr (.inl ⟨b0, b1, c, rfl, rfl⟩)
  | write n op =>
    rcases exec_write_next h with ⟨hbad, ht⟩ | ⟨h0, hn, hall, ht⟩
    · exact .inr (.inr (.inl ⟨n, op, rfl, hbad, ht⟩))
    · exact .inr (.inr (.inr (.inl ⟨n, op, rfl, h0, hn, hall, ht⟩)))
  | readf n => cases h; exact .inr (.inr (.inr (.inr ⟨.fixed, n, rfl, rfl⟩)))
  | readz n => cases h; exact .inr (.inr (.inr (.inr ⟨.zero, n, rfl, rfl⟩)))

theorem exec_readInstr_next {mode : ReadMode} {n : BitVec 8} {s t : State}
    (h : exec (readInstr mode n) s = .next t) : t = readDecode mode n.toNat s := by
  rw [exec_readInstr] at h
  exact (Host.Outcome.next.inj h).symm

/-- No command changes what is the host's: parameters, BUSADDR, TXW, coming accesses, and the value last read. -/
theorem exec_keeps_host_side {i : Instr} {s t : State} (h : exec i s = .next t) :
    t.cfg = s.cfg ∧ t.busaddr = s.busaddr ∧ t.txw = s.txw ∧ t.hostq = s.hostq ∧ t.readData = s.readData := by
  rcases exec_next_cases h with ⟨_, _, -, rfl⟩ | ⟨_, _, _, -, rfl⟩ | ⟨_, _, -, -, rfl⟩ |
    ⟨_, _, -, -, -, -, rfl⟩ | ⟨_, _, -, rfl⟩ <;> simp

theorem runCommand_of_ok {c : CmdWord} {i : Instr} (hd : decode c = .ok i) (s : State) :
    runCommand c s = exec i s := by
  rw [runCommand, hd]

theorem runCommand_of_error {c : CmdWord} {e : DecodeReject} (hd : decode c = .error e) (s : State) :
    runCommand c s = .next (raise .invalidParameter s) := by
  rw [runCommand, hd]

/-- A CMD write that answers ran its command, or was reserved and wrote STATUS only (30 R80, R83). -/
theorem runCommand_next {c : CmdWord} {s t : State} (h : runCommand c s = .next t) :
    (∃ i, decode c = .ok i ∧ exec i s = .next t) ∨
    (∃ e, decode c = .error e ∧ t = raise .invalidParameter s) := by
  rcases runCommand_cases c s with ⟨i, hd, hr⟩ | ⟨e, hd, hr⟩
  · exact .inl ⟨i, hd, hr.symm.trans h⟩
  · exact .inr ⟨e, hd, (Host.Outcome.next.inj (hr.symm.trans h)).symm⟩

theorem runCommand_keeps_host_side {c : CmdWord} {s t : State} (h : runCommand c s = .next t) :
    t.cfg = s.cfg ∧ t.busaddr = s.busaddr ∧ t.txw = s.txw ∧ t.hostq = s.hostq ∧ t.readData = s.readData := by
  rcases runCommand_next h with ⟨i, -, he⟩ | ⟨e, -, rfl⟩
  · exact exec_keeps_host_side he
  · simp

end Sys2Proof.Machine
end

section
/-! The host's side: what one access and one step can answer (10 R36, R37). -/

namespace Sys2Proof.Machine

/-! ### Reads of elements that hold no defined value (10 R37) -/

theorem hostRead_txw_unwritten {s : State} {i : Nat} (hi : i < s.cfg.maxTxWords) (hw : txwWritten s i = false) :
    hostRead (.txw i) s = .fault (.unwrittenTxw i) := by
  simp [hostRead, hi, hw]

theorem hostRead_txf_undefined {s : State} {j : Nat} (hj : j < s.cfg.txfSize) (h : s.txlen.toNat ≤ j) :
    hostRead (.txf j) s = .fault (.unspecifiedTxf j) := by
  simp [hostRead, hj, Nat.not_lt.2 h]

theorem hostRead_rxd_undefined {s : State} {j : Nat} (hj : j < s.cfg.maxRxData) (h : s.rxlen.toNat ≤ j) :
    hostRead (.rxd j) s = .fault (.unspecifiedRxd j) := by
  simp [hostRead, hj, Nat.not_lt.2 h]

theorem hostRead_txf_of_txlen_zero {s : State} (h : s.txlen = 0) :
    ∀ j < s.cfg.txfSize, hostRead (.txf j) s = .fault (.unspecifiedTxf j) :=
  fun _ hj => hostRead_txf_undefined hj (by simp [h])

theorem hostRead_rxd_of_rxlen_zero {s : State} (h : s.rxlen = 0) :
    ∀ j < s.cfg.maxRxData, hostRead (.rxd j) s = .fault (.unspecifiedRxd j) :=
  fun _ hj => hostRead_rxd_undefined hj (by simp [h])

/-! ### What an access can answer -/

/-- The shape of a read of an array's element: refused outside the array, a fault where no value is defined. -/
theorem elementRead_cases (p q : Prop) [Decidable p] [Decidable q] {w : Nat} (v : BitVec w) (s : State)
    (f : Fault) (r : Refusal) :
    ((p ∧ q) ∧ ∃ d, (if p then if q then returnData v s else .fault f else .refused r) =
      .next { s with readData := d }) ∨
    (¬ (p ∧ q) ∧ ∀ t, (if p then if q then returnData v s else .fault f else .refused r) ≠ .next t) := by
  by_cases hp : p
  · by_cases hq : q
    · exact .inl ⟨⟨hp, hq⟩, _, by rw [if_pos hp, if_pos hq]; rfl⟩
    · exact .inr ⟨fun h => hq h.2, by simp [hp, hq]⟩
  · exact .inr ⟨fun h => hp h.1, by simp [hp]⟩

/-- A host read answers exactly for a register that exists and holds a defined value; it changes `readData` only. -/
theorem hostRead_cases (r : Reg) (s : State) :
    ((RegExists s.cfg r ∧ RegDefined s r) ∧ ∃ d, hostRead r s = .next { s with readData := d }) ∨
    (¬ (RegExists s.cfg r ∧ RegDefined s r) ∧ ∀ t, hostRead r s ≠ .next t) := by
  cases r with
  | cmd => exact .inr ⟨fun h => h.2, by simp [hostRead]⟩
  | txw i => exact elementRead_cases (i < s.cfg.maxTxWords) (txwWritten s i = true) (txwValue s i) s _ _
  | txf j => exact elementRead_cases (j < s.cfg.txfSize) (j < s.txlen.toNat) (s.txf[j]?.getD 0) s _ _
  | rxd j => exact elementRead_cases (j < s.cfg.maxRxData) (j < s.rxlen.toNat) (s.rxd[j]?.getD 0) s _ _
  | busaddr => exact .inl ⟨⟨trivial, trivial⟩, _, rfl⟩
  | status => exact .inl ⟨⟨trivial, trivial⟩, _, rfl⟩
  | crcout => exact .inl ⟨⟨trivial, trivial⟩, _, rfl⟩
  | txlen => exact .inl ⟨⟨trivial, trivial⟩, _, rfl⟩
  | rxlen => exact .inl ⟨⟨trivial, trivial⟩, _, rfl⟩

theorem hostRead_next {r : Reg} {s t : State} (h : hostRead r s = .next t) :
    t = { s with readData := t.readData } := by
  rcases hostRead_cases r s with ⟨-, d, hd⟩ | ⟨-, hstop⟩
  · cases hd.symm.trans h; rfl
  · exact absurd h (hstop t)

/-- A host write of a register other than CMD, BUSADDR and TXW is ignored (10 R36). -/
theorem hostWrite_readOnly {r : Reg} {s : State} (v : BitVec 32) (hr : RegExists s.cfg r)
    (hcmd : r ≠ .cmd) (hbus : r ≠ .busaddr) (htxw : ∀ i, r ≠ .txw i) : hostWrite r v s = .next s := by
  cases r with
  | cmd => exact absurd rfl hcmd
  | busaddr => exact absurd rfl hbus
  | txw i => exact absurd rfl (htxw i)
  | txf j => exact if_pos hr
  | rxd j => exact if_pos hr
  | status => rfl
  | crcout => rfl
  | txlen => rfl
  | rxlen => rfl

theorem hostWrite_txw {s : State} {i : Nat} (v : BitVec 32) (hi : i < s.cfg.maxTxWords) :
    hostWrite (.txw i) v s = .next (setTxw i v s) := if_pos hi

/-- An access to an index outside its array is refused (10 R36). -/
theorem access_refused_of_not_exists {r : Reg} {s : State} (v : BitVec 32) (hr : ¬ RegExists s.cfg r) :
    hostWrite r v s = .refused (.noSuchRegister r) ∧ hostRead r s = .refused (.noSuchRegister r) := by
  cases r with
  | txw i => exact ⟨if_neg hr, if_neg hr⟩
  | txf j => exact ⟨if_neg hr, if_neg hr⟩
  | rxd j => exact ⟨if_neg hr, if_neg hr⟩
  | cmd => exact absurd trivial hr
  | busaddr => exact absurd trivial hr
  | status => exact absurd trivial hr
  | crcout => exact absurd trivial hr
  | txlen => exact absurd trivial hr
  | rxlen => exact absurd trivial hr

/-- What a host write that answers has done: run a command, set BUSADDR or a word of TXW, or nothing. -/
theorem hostWrite_next {r : Reg} {v : BitVec 32} {s t : State} (h : hostWrite r v s = .next t) :
    (r = .cmd ∧ runCommand v s = .next t) ∨ (r = .busaddr ∧ t = setBusaddr v s) ∨
    (∃ i, r = .txw i ∧ t = setTxw i v s) ∨ t = s := by
  by_cases hr : RegExists s.cfg r
  · by_cases hcmd : r = .cmd
    · subst hcmd; exact .inl ⟨rfl, h⟩
    by_cases hbus : r = .busaddr
    · subst hbus; cases h; exact .inr (.inl ⟨rfl, rfl⟩)
    by_cases htxw : ∃ i, r = .txw i
    · obtain ⟨i, rfl⟩ := htxw
      cases (hostWrite_txw v hr).symm.trans h
      exact .inr (.inr (.inl ⟨i, rfl, rfl⟩))
    · cases (hostWrite_readOnly v hr hcmd hbus (not_exists.1 htxw)).symm.trans h
      exact .inr (.inr (.inr rfl))
  · cases (access_refused_of_not_exists v hr).1.symm.trans h

/-- A step that answers was idle, or did the next access to its end. -/
theorem step_next {s t : State} (h : step s = .next t) :
    (s.hostq = [] ∧ t = s) ∨ ∃ a rest, s.hostq = a :: rest ∧ hostAccess a { s with hostq := rest } = .next t := by
  unfold step nextAccess at h
  split at h
  · next hq => cases h; exact .inl ⟨hq, rfl⟩
  · next a rest hq => exact .inr ⟨a, rest, hq, h⟩

theorem step_of_hostq_cons {s : State} {a : HostAccess} {rest : List HostAccess} (h : s.hostq = a :: rest) :
    step s = hostAccess a { s with hostq := rest } := by
  simp [step, nextAccess, h]

end Sys2Proof.Machine
end

section
/-! The invariant of the codec: it holds after reset, and every access keeps it. -/

namespace Sys2Proof.Machine

/-- A frame of at most MAX_TX_WORDS words fits TXF (10 R20). -/
theorem frame_length_le_txfSize {c : Config} {ws : List Word} (op : Word) (h : ws.length ≤ c.maxTxWords) :
    (frame op ws).length ≤ c.txfSize := by
  rw [frame_length, Config.txfSize]
  omega

/-! ### Reset -/

theorem inv_resetOf {c : Config} (hc : c.Valid) : (State.resetOf c).Inv where
  cfgValid := hc
  txwLength := List.length_replicate
  txfLength := List.length_replicate
  rxdLength := List.length_replicate
  rxqEmpty := rfl
  statusLegal := .inl rfl
  frameHeld := .inl rfl
  rxlenEven := rfl
  rxlenFits := Nat.zero_le _
  callsProper := by simp [State.resetOf]

/-- Reset keeps the calls of the record, so they stay proper (log entry 19). -/
theorem inv_assertReset {s : State} (h : s.Inv) : (assertReset s).Inv :=
  { inv_resetOf h.cfgValid with callsProper := h.callsProper }

/-! ### Register accesses -/

theorem inv_setBusaddr {s : State} (v : BitVec 32) (h : s.Inv) : (setBusaddr v s).Inv := { h with }

theorem inv_setTxw {s : State} (i : Nat) (v : BitVec 32) (h : s.Inv) : (setTxw i v s).Inv :=
  { h with txwLength := by simp [h.txwLength] }

theorem inv_hostRead {r : Reg} {s t : State} (h : s.Inv) (ht : hostRead r s = .next t) : t.Inv := by
  rw [hostRead_next ht]
  exact { h with }

/-! ### Commands -/

theorem inv_raise {s : State} {k : Kind} (hk : LegalStatus (statusCode k)) (h : s.Inv) : (raise k s).Inv :=
  { h with statusLegal := hk }

theorem inv_crcToOut {s : State} (b0 b1 : Byte) (h : s.Inv) : (crcToOut b0 b1 s).Inv := { h with }

theorem inv_refuseFrame {s : State} {k : Kind} (hk : LegalStatus (statusCode k)) (h : s.Inv) :
    (refuseFrame k s).Inv :=
  { h with
    txfLength := by simp [h.txfLength]
    statusLegal := hk
    frameHeld := .inl rfl }

theorem inv_sendFrame {s : State} {op : Word} {ws : List Word} (hp : ProperFrame s.cfg op ws) (h : s.Inv) :
    (sendFrame op ws s).Inv where
  cfgValid := h.cfgValid
  txwLength := h.txwLength
  txfLength := by
    have hfits := frame_length_le_txfSize op hp.2
    rw [← h.txfLength] at hfits
    exact (overlay_length _ _ hfits).trans h.txfLength
  rxdLength := h.rxdLength
  rxqEmpty := h.rxqEmpty
  statusLegal := legalStatus_writeAnswerKind _
  frameHeld := by
    have hlen := sendFrame_txlen_toNat op h.cfgValid hp.2
    exact .inr ⟨op, ws, hp, hlen, by rw [hlen, sendFrame_txf, overlay_take]⟩
  rxlenEven := h.rxlenEven
  rxlenFits := h.rxlenFits
  callsProper := by
    simp only [sendFrame_calls, sendFrame_cfg, List.forall_mem_append, List.forall_mem_singleton]
    exact ⟨h.callsProper, op, ws, hp, rfl⟩

/-- What `Inv` asks of STATUS, RXLEN and RXD holds after a read, however it ends. -/
theorem readDecode_results (mode : ReadMode) (n : BitVec 8) {s : State} (h : s.Inv) :
    let t := readDecode mode n.toNat s
    LegalStatus t.status ∧ t.rxlen.toNat % 2 = 0 ∧ t.rxlen.toNat ≤ s.cfg.maxRxData ∧
      t.rxd.length = s.cfg.maxRxData := by
  intro t
  rcases readDecode_fails_or_completes mode n.toNat s with
    ⟨-, hstatus, hlen, hrxd⟩ | ⟨hstatus, ⟨-, hmax⟩, l, -, hl, -, -, hlen, hrxd⟩
  · exact ⟨hstatus, by simp [t, hlen], by simp [t, hlen], hrxd.trans h.rxdLength⟩
  · have heven := (runGroups_out_length mode s.crc l).1
    have hfits := (runGroups_out_le mode s.crc hl).trans hmax
    have hcount : t.rxlen.toNat = (runGroups mode s.crc l).out.length := by
      rw [hlen, rxlen_toNat_of_response mode s.crc hl]
    refine ⟨.inl hstatus, hcount ▸ heven, hcount ▸ hfits, ?_⟩
    rw [hrxd, overlay_length _ _ (h.rxdLength ▸ hfits), h.rxdLength]

theorem inv_readDecode (mode : ReadMode) (n : BitVec 8) {s : State} (h : s.Inv) :
    (readDecode mode n.toNat s).Inv := by
  obtain ⟨hstatus, heven, hfits, hrxd⟩ := readDecode_results mode n h
  obtain ⟨hrxq, hcalls⟩ := readDecode_rxq_calls mode n.toNat s
  exact {
    cfgValid := by simpa using h.cfgValid
    txwLength := by simpa using h.txwLength
    txfLength := by simpa using h.txfLength
    rxdLength := by simpa using hrxd
    rxqEmpty := hrxq
    statusLegal := hstatus
    frameHeld := by simpa [HoldsFrame] using h.frameHeld
    rxlenEven := heven
    rxlenFits := by simpa using hfits
    callsProper := by
      rw [readDecode_cfg]
      rcases hcalls with hcalls | ⟨⟨hlow, hhigh⟩, hcalls⟩ <;> rw [hcalls]
      · exact h.callsProper
      · simp only [List.forall_mem_append, List.forall_mem_singleton]
        exact ⟨h.callsProper, n.toNat, hlow, hhigh, rfl⟩ }

theorem legalStatus_refusal (op : Word) : LegalStatus (statusCode (refusal op)) := by
  unfold refusal
  split <;> decide

theorem inv_exec {i : Instr} {s t : State} (h : s.Inv) (ht : exec i s = .next t) : t.Inv := by
  rcases exec_next_cases ht with ⟨b0, b1, -, rfl⟩ | ⟨b0, b1, c, -, rfl⟩ | ⟨n, op, -, -, rfl⟩ |
    ⟨n, op, -, hop, hn, -, rfl⟩ | ⟨mode, n, -, rfl⟩
  · exact inv_raise (by decide) (inv_crcToOut b0 b1 h)
  · exact inv_raise (by split <;> decide) (inv_crcToOut b0 b1 h)
  · exact inv_refuseFrame (legalStatus_refusal op) h
  · exact inv_sendFrame ⟨hop, by simpa using hn⟩ h
  · exact inv_readDecode mode n h

theorem inv_runCommand {c : CmdWord} {s t : State} (h : s.Inv) (ht : runCommand c s = .next t) : t.Inv := by
  rcases runCommand_next ht with ⟨i, -, he⟩ | ⟨e, -, rfl⟩
  · exact inv_exec h he
  · exact inv_raise (by decide) h

theorem inv_hostWrite {r : Reg} {v : BitVec 32} {s t : State} (h : s.Inv) (ht : hostWrite r v s = .next t) :
    t.Inv := by
  rcases hostWrite_next ht with ⟨-, hc⟩ | ⟨-, rfl⟩ | ⟨i, -, rfl⟩ | rfl
  · exact inv_runCommand h hc
  · exact inv_setBusaddr v h
  · exact inv_setTxw i v h
  · exact h

theorem inv_hostAccess {a : HostAccess} {s t : State} (h : s.Inv) (ht : hostAccess a s = .next t) : t.Inv := by
  cases a with
  | write r v => exact inv_hostWrite h ht
  | read r => exact inv_hostRead h ht
  | reset => cases ht; exact inv_assertReset h

/-- Settles O48: reset fills every array to its size, with STATUS, TXLEN and RXLEN 0 and no call made. -/
theorem invariantHoldsAtReset : Obligations.InvariantHoldsAtReset :=
  ⟨fun _ hc => inv_resetOf hc, rfl, inv_resetOf (by decide)⟩

/-- Settles O49: idle steps change nothing, and every access keeps the invariant. -/
theorem stepKeepsInvariant : Obligations.StepKeepsInvariant := by
  intro s t h ht
  rcases step_next ht with ⟨-, rfl⟩ | ⟨a, rest, -, ha⟩
  · exact h
  · have htaken : State.Inv { s with hostq := rest } := { h with }
    exact inv_hostAccess htaken ha

end Sys2Proof.Machine
end

section
/-! Noninterference: states that differ only where nothing is defined or visible stay so (10 R34, R35, R37). Each
operation of the model keeps the relation; the commands, the accesses and the step are put together from these. -/

namespace Sys2Proof.Machine

theorem sameOutcome_next {R : State → State → Prop} {s t : State} (h : R s t) :
    SameOutcome R (.next s) (.next t) := h

/-! ### Arrays -/

/-- Overwritten with the same bytes, two arrays of one length agree below any index the bytes reach. -/
theorem agreeBelow_overlay {new a b : List Byte} {n : Nat} (hlen : a.length = b.length) (hn : n ≤ new.length) :
    AgreeBelow n (overlay new a) (overlay new b) := by
  refine ⟨by simp [overlay, hlen], fun j hj => ?_⟩
  rw [overlay_getElem?_lt new a (hj.trans_le hn), overlay_getElem?_lt new b (hj.trans_le hn)]

theorem agreeBelow_of_eq {n : Nat} {a b : List Byte} (h : a = b) : AgreeBelow n a b :=
  ⟨congrArg _ h, fun _ _ => by rw [h]⟩

theorem length_ofNat_toNat_le (l : List Byte) : (BitVec.ofNat 8 l.length).toNat ≤ l.length := by
  rw [BitVec.toNat_ofNat]
  exact Nat.mod_le _ _

/-- The words a WRITE takes are the same in both states when all of them are written. -/
theorem txWords_congr {s t : State} {n : Nat} (h : AgreeTxw s t) (hall : ∀ k < n, txwWritten s k = true) :
    txWords s n = txWords t n :=
  List.map_congr_left fun k hk => (h.2 k).2 (hall k (List.mem_range.1 hk))

theorem firstUnwritten_congr {s t : State} (h : AgreeTxw s t) (n : Nat) :
    firstUnwritten s n = firstUnwritten t n := by
  have hpred : (fun k => !txwWritten s k) = fun k => !txwWritten t k := funext fun k => by rw [(h.2 k).1]
  rw [firstUnwritten, firstUnwritten, hpred]

/-! ### The operations -/

section
variable {s t : State} (h : Indistinguishable s t)
include h

theorem indistinguishable_raise (k : Kind) : Indistinguishable (raise k s) (raise k t) :=
  { h with status := rfl }

theorem indistinguishable_crcToOut (b0 b1 : Byte) : Indistinguishable (crcToOut b0 b1 s) (crcToOut b0 b1 t) :=
  { h with crcout := rfl }

theorem indistinguishable_refuseFrame (k : Kind) : Indistinguishable (refuseFrame k s) (refuseFrame k t) :=
  { h with
    status := rfl
    txlen := rfl
    txf := agreeBelow_of_eq (by simp [h.free, h.txf.1])
    free := by simp [h.free, h.txf.1] }

theorem writeAnswer_congr : writeAnswer s = writeAnswer t := by
  rw [writeAnswer, writeAnswer, h.writeAnswers, h.free]

theorem readAnswer_congr : readAnswer s = readAnswer t := by
  rw [readAnswer, readAnswer, h.readAnswers, h.free]

theorem indistinguishable_sendFrame (op : Word) (ws : List Word) :
    Indistinguishable (sendFrame op ws s) (sendFrame op ws t) :=
  { h with
    status := by simp [writeAnswer_congr h]
    txlen := rfl
    txf := agreeBelow_overlay h.txf.1 (length_ofNat_toNat_le _)
    writeAnswers := by simp [h.writeAnswers]
    calls := by simp [h.calls, h.busaddr]
    free := by simp [h.free] }

theorem indistinguishable_transportRead (count : Nat) :
    Indistinguishable (transportRead count s) (transportRead count t) :=
  { h with
    readAnswers := by simp [h.readAnswers]
    calls := by simp [h.calls, h.busaddr]
    free := by simp [h.free] }

theorem indistinguishable_loadRxq (l l' : List Byte) : Indistinguishable (loadRxq l s) (loadRxq l' t) :=
  { h with }

theorem indistinguishable_consumeGroups (mode : ReadMode) :
    Indistinguishable (consumeGroups mode s) (consumeGroups mode t) :=
  { h with }

theorem indistinguishable_failRead (k : Kind) : Indistinguishable (failRead k s) (failRead k t) :=
  { h with
    status := rfl
    rxlen := rfl
    rxd := agreeBelow_of_eq (by simp [h.free, h.rxd.1])
    free := by simp [h.free, h.rxd.1] }

theorem indistinguishable_completeRead (out : List Byte) :
    Indistinguishable (completeRead out s) (completeRead out t) :=
  { h with
    status := rfl
    rxlen := rfl
    rxd := agreeBelow_overlay h.rxd.1 (length_ofNat_toNat_le _) }

theorem indistinguishable_endRead (mode : ReadMode) (n : Nat) {run run' : GroupRun} (hok : run.ok = run'.ok)
    (hout : run.out = run'.out) : Indistinguishable (endRead mode n run s) (endRead mode n run' t) := by
  rw [endRead, endRead, ← hok, ← hout]
  split_ifs
  · exact indistinguishable_failRead h .protocol
  · exact indistinguishable_failRead h .dataLength
  · exact indistinguishable_completeRead h run.out

theorem indistinguishable_takeResponse (mode : ReadMode) (n : Nat) (a : ReadAnswer) :
    Indistinguishable (takeResponse mode n a s) (takeResponse mode n a t) := by
  cases a with
  | error e => exact indistinguishable_failRead h _
  | bytes l =>
    simp only [takeResponse]
    split_ifs
    · exact indistinguishable_failRead (indistinguishable_loadRxq h l l) .protocol
    · have hconsumed := indistinguishable_consumeGroups (indistinguishable_loadRxq h l l) mode
      obtain ⟨hok, hout⟩ := runGroups_ok_out_of_any_crc mode s.crc t.crc l
      exact indistinguishable_endRead hconsumed mode n hok hout

theorem indistinguishable_readDecode (mode : ReadMode) (n : Nat) :
    Indistinguishable (readDecode mode n s) (readDecode mode n t) := by
  rw [readDecode, readDecode, countInRange, countInRange, ← h.cfg, ← readAnswer_congr h]
  split_ifs
  · exact indistinguishable_takeResponse (indistinguishable_transportRead h _) mode n _
  · exact indistinguishable_failRead h .invalidParameter

theorem indistinguishable_setBusaddr (v : BitVec 32) : Indistinguishable (setBusaddr v s) (setBusaddr v t) :=
  { h with busaddr := rfl }

theorem indistinguishable_setTxw (i : Nat) (v : BitVec 32) : Indistinguishable (setTxw i v s) (setTxw i v t) := by
  refine { h with txw := ⟨by simp [h.txw.1], fun k => ?_⟩ }
  have hk := h.txw.2 k
  unfold txwWritten txwValue at hk ⊢
  rw [setTxw_txw, setTxw_txw, List.getElem?_set, List.getElem?_set, ← h.txw.1]
  split_ifs
  · exact ⟨rfl, fun _ => rfl⟩
  · exact ⟨rfl, fun _ => rfl⟩
  · exact hk

theorem indistinguishable_assertReset : Indistinguishable (assertReset s) (assertReset t) := by
  have hcfg := h.cfg
  exact { h with
    busaddr := rfl
    txw := ⟨by simp [hcfg], fun k => by simp [txwWritten, txwValue, hcfg]⟩
    status := rfl
    crcout := rfl
    txlen := rfl
    txf := agreeBelow_of_eq (by simp [hcfg])
    rxlen := rfl
    rxd := agreeBelow_of_eq (by simp [hcfg]) }

/-! ### Commands and accesses -/

theorem sameOutcome_execWrite (n : BitVec 8) (op : Word) :
    SameOutcome Indistinguishable (execWrite n op s) (execWrite n op t) := by
  rw [execWrite, execWrite, ← h.cfg, ← firstUnwritten_congr h.txw]
  split_ifs
  · exact indistinguishable_refuseFrame h _
  · exact indistinguishable_refuseFrame h _
  · cases hfirst : firstUnwritten s n.toNat with
    | some k => rfl
    | none =>
      have hall := (firstUnwritten_none_iff s n.toNat).1 hfirst
      rw [← txWords_congr h.txw hall]
      exact indistinguishable_sendFrame h op _

theorem sameOutcome_exec (i : Instr) : SameOutcome Indistinguishable (exec i s) (exec i t) := by
  cases i with
  | crc8 b0 b1 => exact indistinguishable_raise (indistinguishable_crcToOut h b0 b1) .ok
  | check b0 b1 c =>
    rw [exec, exec, execCheck_eq, execCheck_eq]
    exact indistinguishable_raise (indistinguishable_crcToOut h b0 b1) _
  | write n op => exact sameOutcome_execWrite h n op
  | readf n => exact indistinguishable_readDecode h .fixed n.toNat
  | readz n => exact indistinguishable_readDecode h .zero n.toNat

theorem sameOutcome_runCommand (c : CmdWord) :
    SameOutcome Indistinguishable (runCommand c s) (runCommand c t) := by
  cases hd : decode c with
  | ok i =>
    rw [runCommand_of_ok hd, runCommand_of_ok hd]
    exact sameOutcome_exec h i
  | error e =>
    rw [runCommand_of_error hd, runCommand_of_error hd]
    exact indistinguishable_raise h .invalidParameter

theorem sameOutcome_returnData {w : Nat} {v v' : BitVec w} (hv : v = v') :
    SameOutcome Indistinguishable (returnData v s) (returnData v' t) := by
  subst hv
  exact sameOutcome_next { h with readData := rfl }

theorem sameOutcome_hostWrite (r : Reg) (v : BitVec 32) :
    SameOutcome Indistinguishable (hostWrite r v s) (hostWrite r v t) := by
  cases r with
  | cmd => exact sameOutcome_runCommand h v
  | busaddr => exact indistinguishable_setBusaddr h v
  | txw i =>
    simp only [hostWrite, ← h.cfg]
    split_ifs
    · exact indistinguishable_setTxw h i v
    · rfl
  | txf j =>
    simp only [hostWrite, ← h.cfg]
    split_ifs
    · exact h
    · rfl
  | rxd j =>
    simp only [hostWrite, ← h.cfg]
    split_ifs
    · exact h
    · rfl
  | status => exact h
  | crcout => exact h
  | txlen => exact h
  | rxlen => exact h

/-- An element is read alike in both states when it exists and is defined alike, and holds the same value where it
is defined. -/
theorem sameOutcome_elementRead {p q : Prop} [Decidable p] [Decidable q] {w : Nat} {v v' : BitVec w}
    (f : Fault) (r : Refusal) (hv : q → v = v') :
    SameOutcome Indistinguishable
      (if p then if q then returnData v s else .fault f else .refused r)
      (if p then if q then returnData v' t else .fault f else .refused r) := by
  split_ifs with hp hq
  · exact sameOutcome_returnData h (hv hq)
  · rfl
  · rfl

theorem sameOutcome_hostRead (r : Reg) : SameOutcome Indistinguishable (hostRead r s) (hostRead r t) := by
  cases r with
  | cmd => rfl
  | busaddr => exact sameOutcome_returnData h h.busaddr
  | txw i =>
    obtain ⟨hwritten, hvalue⟩ := h.txw.2 i
    simp only [hostRead, ← h.cfg, ← hwritten]
    exact sameOutcome_elementRead h _ _ hvalue
  | status => exact sameOutcome_returnData h h.status
  | crcout => exact sameOutcome_returnData h h.crcout
  | txlen => exact sameOutcome_returnData h h.txlen
  | txf j =>
    simp only [hostRead, ← h.cfg, ← h.txlen]
    exact sameOutcome_elementRead h _ _ fun hj => by rw [h.txf.2 j hj]
  | rxlen => exact sameOutcome_returnData h h.rxlen
  | rxd j =>
    simp only [hostRead, ← h.cfg, ← h.rxlen]
    exact sameOutcome_elementRead h _ _ fun hj => by rw [h.rxd.2 j hj]

theorem sameOutcome_hostAccess (a : HostAccess) :
    SameOutcome Indistinguishable (hostAccess a s) (hostAccess a t) := by
  cases a with
  | write r v => exact sameOutcome_hostWrite h r v
  | read r => exact sameOutcome_hostRead h r
  | reset => exact indistinguishable_assertReset h

end

/-- Settles O50: both states have the same next access, and every access keeps the relation. -/
theorem undefinedValuesAreUnobservable : Obligations.UndefinedValuesAreUnobservable := by
  intro s t h
  cases hq : s.hostq with
  | nil =>
    rw [step, step, nextAccess, nextAccess, ← h.hostq, hq]
    exact h
  | cons a rest =>
    rw [step_of_hostq_cons hq, step_of_hostq_cons (h.hostq ▸ hq)]
    have htaken : Indistinguishable { s with hostq := rest } { t with hostq := rest } := { h with hostq := rfl }
    exact sameOutcome_hostAccess htaken a

end Sys2Proof.Machine
end

section
/-! The registers after each command, and the host's accesses: the statements of 10_state.md, rule by rule. -/

namespace Sys2Proof.Machine

/-! ### The host's next access -/

/-- Settles O54: a step with an access waiting is that access, by definition. -/
theorem stepDoesTheNextAccess : Obligations.StepDoesTheNextAccess := by
  intro s rest
  refine ⟨fun a h => step_of_hostq_cons h, fun r v h => step_of_hostq_cons h, fun r h => step_of_hostq_cons h,
    fun h => ?_⟩
  rw [step_of_hostq_cons h]
  rfl

/-- Settles O1: the access is a CMD write, and `decode` says which command it runs. -/
theorem stepRunsDecodedCommand : Obligations.StepRunsDecodedCommand := by
  refine ⟨fun s c rest i hq hd => ?_, fun s c rest e hq hd => ?_, fun s rest hq => step_of_hostq_cons hq⟩
  · rw [step_of_hostq_cons hq]
    exact runCommand_of_ok hd _
  · rw [step_of_hostq_cons hq]
    exact runCommand_of_error hd _

/-- Settles O39: read-only registers, indexes outside the arrays, and the value of each readable register. -/
theorem hostAccessRules : Obligations.HostAccessRules := by
  refine ⟨fun r v s hr ⟨hcmd, hbus, htxw⟩ => hostWrite_readOnly v hr hcmd hbus htxw,
    fun r v s hr => access_refused_of_not_exists v hr, fun r s t h => hostRead_next h,
    fun s => ⟨rfl, rfl, rfl, rfl, rfl, fun i hi hw => ?_, fun j b hj hlen hb => ?_, fun j b hj hlen hb => ?_⟩⟩
  · simp [hostRead, hi, hw, returnData]
  · simp [hostRead, hj, hlen, hb, returnData]
  · simp [hostRead, hj, hlen, hb, returnData]

/-! ### Reset -/

theorem txwWritten_of_replicate_unwritten {s : State} {n : Nat} (h : s.txw = List.replicate n ⟨0x0000, false⟩)
    (i : Nat) : txwWritten s i = false := by
  rw [txwWritten, h, List.getElem?_replicate]
  split_ifs <;> rfl

/-- Settles O42: after reset TXLEN and RXLEN are 0 and every TXW is unwritten, so no array element is readable. -/
theorem resetValues : Obligations.ResetValues := by
  refine ⟨fun c => ⟨rfl, rfl, rfl, rfl, rfl, rfl, rfl, fun i hi => ?_, ?_, ?_⟩,
    fun s => ⟨assertReset s, rfl, rfl, rfl, rfl, rfl, rfl, rfl, rfl, rfl, fun i hi => ?_, ?_, ?_⟩⟩
  · exact hostRead_txw_unwritten hi (txwWritten_of_replicate_unwritten rfl i)
  · exact hostRead_txf_of_txlen_zero (s := State.resetOf c) rfl
  · exact hostRead_rxd_of_rxlen_zero (s := State.resetOf c) rfl
  · exact hostRead_txw_unwritten hi (txwWritten_of_replicate_unwritten rfl i)
  · exact hostRead_txf_of_txlen_zero (s := assertReset s) rfl
  · exact hostRead_rxd_of_rxlen_zero (s := assertReset s) rfl

/-- Settles O43: no command, register access or reset writes the parameters. -/
theorem parametersNeverChange : Obligations.ParametersNeverChange := by
  intro s t h
  rcases step_next h with ⟨-, rfl⟩ | ⟨a, rest, -, ha⟩
  · rfl
  cases a with
  | write r v =>
    rcases hostWrite_next ha with ⟨-, hc⟩ | ⟨-, rfl⟩ | ⟨i, -, rfl⟩ | rfl
    · exact (runCommand_keeps_host_side hc).1
    · rfl
    · rfl
    · rfl
  | read r => rw [hostRead_next ha]
  | reset => cases ha; rfl

/-! ### Which steps complete (10 R37, 70 R204) -/

/-- Only a WRITE past its checks that reaches an unwritten word stops a command. -/
theorem exec_completes_iff (i : Instr) (s : State) : (∃ t, exec i s = .next t) ↔ WordsLoaded i s := by
  cases i with
  | crc8 b0 b1 => exact iff_of_true ⟨_, rfl⟩ trivial
  | check b0 b1 c => exact iff_of_true ⟨_, rfl⟩ trivial
  | readf n => exact iff_of_true ⟨_, rfl⟩ trivial
  | readz n => exact iff_of_true ⟨_, rfl⟩ trivial
  | write n op =>
    rcases execWrite_cases n op s with
      ⟨h0, hw⟩ | ⟨h0, hn, hw⟩ | ⟨h0, hn, k, hk, hunwritten, hw⟩ | ⟨h0, hn, hall, hw⟩
    · exact iff_of_true ⟨_, hw⟩ fun hop => absurd h0 hop
    · exact iff_of_true ⟨_, hw⟩ fun _ hle => absurd hn (Nat.not_lt.2 hle)
    · refine iff_of_false (fun ⟨t, ht⟩ => ?_) fun hloaded => ?_
      · cases hw.symm.trans ht
      · exact Bool.false_ne_true (hunwritten.symm.trans (hloaded h0 hn k hk))
    · exact iff_of_true ⟨_, hw⟩ fun _ _ => hall

theorem runCommand_completes_iff (c : CmdWord) (s : State) :
    (∃ t, runCommand c s = .next t) ↔ ∀ i, decode c = .ok i → WordsLoaded i s := by
  rcases runCommand_cases c s with ⟨i, hd, hr⟩ | ⟨e, hd, hr⟩
  · rw [hr, exec_completes_iff, hd]
    simp
  · exact iff_of_true ⟨_, hr⟩ fun i hi => by cases hd.symm.trans hi

theorem hostRead_completes_iff (r : Reg) (s : State) :
    (∃ t, hostRead r s = .next t) ↔ RegExists s.cfg r ∧ RegDefined s r := by
  rcases hostRead_cases r s with ⟨hsafe, d, hd⟩ | ⟨hunsafe, hstop⟩
  · exact iff_of_true ⟨_, hd⟩ hsafe
  · exact iff_of_false (fun ⟨t, ht⟩ => hstop t ht) hunsafe

/-- A host write of a register other than CMD answers exactly when the register exists. -/
theorem hostWrite_completes_iff {r : Reg} (v : BitVec 32) (s : State) (hcmd : r ≠ .cmd) :
    (∃ t, hostWrite r v s = .next t) ↔ RegExists s.cfg r := by
  by_cases hr : RegExists s.cfg r
  · refine iff_of_true ?_ hr
    by_cases hbus : r = .busaddr
    · exact ⟨setBusaddr v s, by rw [hbus]; rfl⟩
    by_cases htxw : ∃ i, r = .txw i
    · obtain ⟨i, rfl⟩ := htxw
      exact ⟨_, hostWrite_txw v hr⟩
    · exact ⟨s, hostWrite_readOnly v hr hcmd hbus (not_exists.1 htxw)⟩
  · refine iff_of_false (fun ⟨t, ht⟩ => ?_) hr
    cases (access_refused_of_not_exists v hr).1.symm.trans ht

theorem safeAccess_write {r : Reg} (v : BitVec 32) (s : State) (hcmd : r ≠ .cmd) :
    SafeAccess (.write r v) s ↔ RegExists s.cfg r := by
  cases r with
  | cmd => exact absurd rfl hcmd
  | _ => exact Iff.rfl

theorem hostAccess_completes_iff (a : HostAccess) (s : State) :
    (∃ t, hostAccess a s = .next t) ↔ SafeAccess a s := by
  cases a with
  | reset => exact iff_of_true ⟨_, rfl⟩ trivial
  | read r => exact hostRead_completes_iff r s
  | write r v =>
    by_cases hcmd : r = .cmd
    · subst hcmd
      exact runCommand_completes_iff v s
    · rw [safeAccess_write v s hcmd]
      exact hostWrite_completes_iff v s hcmd

/-- Whether an access is safe does not depend on the accesses that wait after it. -/
theorem safeAccess_hostq (a : HostAccess) (s : State) (q : List HostAccess) :
    SafeAccess a { s with hostq := q } ↔ SafeAccess a s := by
  cases a with
  | reset => exact Iff.rfl
  | read r => cases r <;> exact Iff.rfl
  | write r v => cases r <;> exact Iff.rfl

/-- Settles O47: the step is the next access, and each kind of access completes exactly when it is safe. -/
theorem stepCompletesExactlyWhenSafe : Obligations.StepCompletesExactlyWhenSafe := by
  intro s a rest hq
  rw [step_of_hostq_cons hq, hostAccess_completes_iff, safeAccess_hostq]

/-! ### STATUS and BUSADDR have no part in a command (10 R22, R24) -/

/-- Settles O31: every path of every command ends by writing STATUS, and none reads it. -/
theorem statusIsOverwritten : Obligations.StatusIsOverwritten := by
  refine ⟨fun c s v => ?_, fun v s => rfl⟩
  cases hd : decode c with
  | error e => rw [runCommand_of_error hd, runCommand_of_error hd]; rfl
  | ok i =>
    rw [runCommand_of_ok hd, runCommand_of_ok hd]
    cases i with
    | crc8 b0 b1 => rfl
    | check b0 b1 g => rfl
    | write n op => rfl
    | readf n => rfl
    | readz n => rfl

end Sys2Proof.Machine
end

section
/-! Each register after each command (10_state.md R22 to R29, R34, R37, R38). -/

namespace Sys2Proof.Machine

/-! ### CRCOUT, TXLEN, RXLEN (10 R25, R26, R28) -/

/-- Settles O33: of the ways a command can end, only those of CRC8 and CHECK write CRCOUT. -/
theorem crcoutIsWrittenByCrcCommands : Obligations.CrcoutIsWrittenByCrcCommands := by
  refine ⟨fun c s t h => ?_, fun v s => rfl⟩
  rcases runCommand_next h with ⟨i, hd, he⟩ | ⟨e, hd, rfl⟩
  · rw [hd]
    rcases exec_next_cases he with ⟨b0, b1, rfl, rfl⟩ | ⟨b0, b1, g, rfl, rfl⟩ | ⟨n, op, rfl, -, rfl⟩ |
      ⟨n, op, rfl, -, -, -, rfl⟩ | ⟨mode, n, rfl, rfl⟩ <;> simp
  · simp [hd]

/-- TXLEN after a WRITE that answers (10 R26). -/
theorem exec_write_txlen {n : BitVec 8} {op : Word} {s t : State} (hc : s.cfg.Valid)
    (h : exec (.write n op) s = .next t) :
    t.txlen.toNat = if op = 0 ∨ s.cfg.maxTxWords < n.toNat then 0 else 2 + 3 * n.toNat := by
  rcases exec_write_next h with ⟨hbad, rfl⟩ | ⟨h0, hn, -, rfl⟩
  · rw [if_pos hbad]
    rfl
  · rw [if_neg (not_or.2 ⟨h0, Nat.not_lt.2 hn⟩), sendFrame_txlen_toNat op hc (by simpa using hn), frame_length,
      txWords_length]

/-- Settles O34: only the two ends of WRITE write TXLEN. -/
theorem txlenRule : Obligations.TxlenRule := by
  refine ⟨fun v s => rfl, fun c s t hc h => ?_⟩
  rcases runCommand_next h with ⟨i, hd, he⟩ | ⟨e, hd, rfl⟩
  · rw [hd]
    refine ⟨fun n op hi => ?_, fun hne => ?_⟩
    · cases hi
      exact exec_write_txlen hc he
    · rcases exec_next_cases he with ⟨_, _, -, rfl⟩ | ⟨_, _, _, -, rfl⟩ | ⟨n, op, rfl, -⟩ | ⟨n, op, rfl, -⟩ |
        ⟨_, _, -, rfl⟩
      · rfl
      · rfl
      · exact absurd rfl (hne n op)
      · exact absurd rfl (hne n op)
      · simp
  · simp [hd]

/-- Settles O36: a read counts what its loop kept, or leaves 0; nothing else writes RXLEN. -/
theorem rxlenRule : Obligations.RxlenRule := by
  refine ⟨fun v s => rfl, fun c s t h => ?_⟩
  rcases runCommand_next h with ⟨i, hd, he⟩ | ⟨e, hd, rfl⟩
  · rw [hd]
    refine ⟨fun mode n hi => ?_, fun hne => ?_⟩
    · cases hi
      rw [exec_readInstr_next he]
      rcases readDecode_fails_or_completes mode n.toNat s with
        ⟨hstatus, -, hlen, -⟩ | ⟨hstatus, -, l, ha, hl, -, -, hlen, -⟩
      · exact ⟨fun _ => hlen, fun hok => absurd hok hstatus⟩
      · refine ⟨fun hbad => absurd hstatus hbad, fun _ => ⟨l, ha, ?_⟩⟩
        rw [hlen, rxlen_toNat_of_response mode s.crc hl]
    · rcases exec_next_cases he with ⟨_, _, -, rfl⟩ | ⟨_, _, _, -, rfl⟩ | ⟨_, _, -, -, rfl⟩ |
        ⟨_, _, -, -, -, -, rfl⟩ | ⟨mode, n, rfl, -⟩
      · rfl
      · rfl
      · rfl
      · rfl
      · exact absurd rfl (hne mode n)
  · simp [hd]

/-! ### TXF, RXD and the write sets (10 R27, R29, R38) -/

/-- Settles O35: a sent frame overlays TXF; with TXLEN 0 no element is readable. -/
theorem txfRule : Obligations.TxfRule := by
  refine ⟨fun n op s t hc h => ?_, fun s j hj => ⟨hostRead_txf_undefined hj, fun v => if_pos hj⟩⟩
  rcases exec_write_next h with ⟨hbad, rfl⟩ | ⟨h0, hn, -, rfl⟩
  · exact ⟨fun h0 hn => writeChecks_exclusive h0 hn hbad, fun _ => hostRead_txf_of_txlen_zero rfl⟩
  · refine ⟨fun _ _ => ?_, fun hbad => writeChecks_exclusive h0 hn hbad⟩
    rw [sendFrame_txlen_toNat op hc (by simpa using hn)]
    exact ⟨overlay_take _ _, fun j hj => overlay_getElem?_ge _ _ hj⟩

/-- Settles O37: the write sets are read off the ways each command can end. -/
theorem commandWriteSets : Obligations.CommandWriteSets := by
  refine ⟨fun b0 b1 s t h => ?_, fun b0 b1 c s t h => ?_, fun n op s t h => ?_, fun mode n s t h => ?_,
    fun c s t ⟨e, hd⟩ h => ?_⟩
  · cases h; rfl
  · cases (execCheck_eq b0 b1 c s).symm.trans h; rfl
  · rcases exec_write_next h with ⟨-, rfl⟩ | ⟨-, hn, -, rfl⟩
    · exact ⟨rfl, fun _ hlen => absurd rfl hlen⟩
    · refine ⟨rfl, fun hc _ j hj => overlay_getElem?_ge _ _ ?_⟩
      rwa [sendFrame_txlen_toNat op hc (by simpa using hn)] at hj
  · rw [exec_readInstr_next h]
    refine ⟨readDecode_frame mode n.toNat s, fun hok j hj => ?_⟩
    rcases readDecode_fails_or_completes mode n.toNat s with
      ⟨hbad, -⟩ | ⟨-, -, l, -, hl, -, -, hlen, hrxd⟩
    · exact absurd hok hbad
    · rw [hlen, rxlen_toNat_of_response mode s.crc hl] at hj
      rw [hrxd, overlay_getElem?_ge _ _ hj]
  · rcases runCommand_next h with ⟨i, hi, -⟩ | ⟨_, -, rfl⟩
    · cases hd.symm.trans hi
    · rfl

/-! ### Elements that hold no defined value (10 R37) -/

/-- Settles O40: TXLEN is 0 after a refused WRITE and RXLEN is 0 after a failed read, so no element is readable. -/
theorem undefinedElementsFault : Obligations.UndefinedElementsFault := by
  refine ⟨fun s i hi hw => hostRead_txw_unwritten hi hw, fun s j hj h => hostRead_txf_undefined hj h,
    fun s j hj h => hostRead_rxd_undefined hj h, fun n op s t hbad h => ?_, fun mode n s t h hstatus => ?_,
    fun n op s h0 hn ⟨k, hk, hw⟩ => ?_⟩
  · rcases exec_write_next h with ⟨-, rfl⟩ | ⟨h0, hn, -⟩
    · exact hostRead_txf_of_txlen_zero rfl
    · exact writeChecks_exclusive h0 hn hbad
  · cases exec_readInstr_next h
    rcases readDecode_fails_or_completes mode n.toNat s with ⟨-, -, hlen, -⟩ | ⟨hok, -⟩
    · exact hostRead_rxd_of_rxlen_zero hlen
    · exact absurd hok hstatus
  · rcases execWrite_cases n op s with ⟨hop, -⟩ | ⟨-, hgt, -⟩ | ⟨-, -, hfault⟩ | ⟨-, -, hall, -⟩
    · exact absurd hop h0
    · exact absurd hgt (Nat.not_lt.2 hn)
    · exact hfault
    · exact absurd (hw.symm.trans (hall k hk)) Bool.false_ne_true

/-! ### TXW and BUSADDR (10 R22, R23) -/

theorem txwRead_setTxw_same {s : State} {i : Nat} (v : BitVec 32) (hi : i < s.txw.length) :
    txwWritten (setTxw i v s) i = true ∧ txwValue (setTxw i v s) i = v.setWidth 16 := by
  simp [txwWritten, txwValue, hi]

theorem txwRead_setTxw_ne (s : State) {i k : Nat} (v : BitVec 32) (hk : k ≠ i) :
    txwValue (setTxw i v s) k = txwValue s k ∧ txwWritten (setTxw i v s) k = txwWritten s k := by
  simp [txwWritten, txwValue, List.getElem?_set_ne hk.symm]

/-- Settles O41: a host write sets one element of TXW, and no command writes the array. -/
theorem txwHoldsWhatTheHostWrote : Obligations.TxwHoldsWhatTheHostWrote := by
  refine ⟨fun s i w hi hlen => ⟨_, hostWrite_txw _ hi, rfl, ?_, fun k hk => txwRead_setTxw_ne s _ hk⟩,
    fun c s t h => ?_⟩
  · obtain ⟨hwritten, hvalue⟩ := txwRead_setTxw_same (w.setWidth 32) (hlen ▸ hi)
    simp [hostRead, returnData, hi, hwritten, hvalue]
  · obtain ⟨-, -, htxw, -⟩ := runCommand_keeps_host_side h
    exact htxw

/-- The calls a command adds: none, or one to BUSADDR (20 R57). -/
theorem exec_calls {i : Instr} {s t : State} (h : exec i s = .next t) :
    t.calls = s.calls ∨ (∃ f, t.calls = s.calls ++ [.write s.busaddr f]) ∨
      ∃ k, t.calls = s.calls ++ [.read s.busaddr k] := by
  rcases exec_next_cases h with ⟨_, _, -, rfl⟩ | ⟨_, _, _, -, rfl⟩ | ⟨_, _, -, -, rfl⟩ |
    ⟨n, op, -, -, -, -, rfl⟩ | ⟨mode, n, -, rfl⟩
  · exact .inl rfl
  · exact .inl rfl
  · exact .inl rfl
  · exact .inr (.inl ⟨_, rfl⟩)
  · obtain ⟨-, hcalls | ⟨-, hcalls⟩⟩ := readDecode_rxq_calls mode n.toNat s
    · exact .inl hcalls
    · exact .inr (.inr ⟨_, hcalls⟩)

/-! STATUS of a read depends on the transport's answer, not on the state that takes it. -/

theorem endRead_status (mode : ReadMode) (n : Nat) {run run' : GroupRun} (s t : State) (hok : run.ok = run'.ok)
    (hout : run.out = run'.out) : (endRead mode n run s).status = (endRead mode n run' t).status := by
  rw [endRead, endRead, ← hok, ← hout]
  split_ifs <;> rfl

theorem takeResponse_status (mode : ReadMode) (n : Nat) (a : ReadAnswer) (s t : State) :
    (takeResponse mode n a s).status = (takeResponse mode n a t).status := by
  cases a with
  | error e => rfl
  | bytes l =>
    obtain ⟨hok, hout⟩ := runGroups_ok_out_of_any_crc mode s.crc t.crc l
    simp only [takeResponse]
    split_ifs
    · rfl
    · exact endRead_status mode n _ _ hok hout

theorem readDecode_status_any_busaddr (mode : ReadMode) (n : Nat) (s : State) (a : BusAddr) :
    (readDecode mode n { s with busaddr := a }).status = (readDecode mode n s).status := by
  have hrange : countInRange n { s with busaddr := a } = countInRange n s := rfl
  have hanswer : readAnswer { s with busaddr := a } = readAnswer s := rfl
  rw [readDecode, readDecode, hrange, hanswer]
  split_ifs
  · exact takeResponse_status mode n _ _ _
  · rfl

/-- With another address the words a WRITE takes, and so its completion, are the same. -/
theorem exec_completes_any_busaddr {i : Instr} {s t : State} (a : BusAddr) (h : exec i s = .next t) :
    ∃ u, exec i { s with busaddr := a } = .next u := by
  have hloaded : WordsLoaded i { s with busaddr := a } ↔ WordsLoaded i s := by cases i <;> exact Iff.rfl
  rw [exec_completes_iff, hloaded, ← exec_completes_iff]
  exact ⟨t, h⟩

theorem exec_status_any_busaddr {i : Instr} {s t u : State} {a : BusAddr} (h : exec i s = .next t)
    (hu : exec i { s with busaddr := a } = .next u) : u.status = t.status := by
  rcases exec_next_cases h with ⟨_, _, rfl, rfl⟩ | ⟨b0, b1, c, rfl, rfl⟩ | ⟨n, op, rfl, hbad, rfl⟩ |
    ⟨n, op, rfl, h0, hn, -, rfl⟩ | ⟨mode, n, rfl, rfl⟩
  · cases hu
    rfl
  · cases (execCheck_eq b0 b1 c _).symm.trans hu
    rfl
  · rcases exec_write_next hu with ⟨-, rfl⟩ | ⟨h0, hn, -⟩
    · rfl
    · exact writeChecks_exclusive h0 hn hbad
  · rcases exec_write_next hu with ⟨hbad, -⟩ | ⟨-, -, -, rfl⟩
    · exact writeChecks_exclusive h0 hn hbad
    · rfl
  · rw [exec_readInstr_next hu]
    exact readDecode_status_any_busaddr mode n.toNat s a

/-- Settles O38: BUSADDR only travels with the calls, and no test of a command reads it. -/
theorem busaddrRule : Obligations.BusaddrRule := by
  refine ⟨fun v s => rfl, fun s => rfl, fun c s t h => ?_, fun c s t a h => ?_⟩
  · obtain ⟨-, hbus, -⟩ := runCommand_keeps_host_side h
    refine ⟨hbus, ?_⟩
    rcases runCommand_next h with ⟨i, -, he⟩ | ⟨_, -, rfl⟩
    · exact exec_calls he
    · exact .inl rfl
  · rcases runCommand_next h with ⟨i, hd, he⟩ | ⟨e, hd, rfl⟩
    · obtain ⟨u, hu⟩ := exec_completes_any_busaddr a he
      exact ⟨u, (runCommand_of_ok hd _).trans hu, exec_status_any_busaddr he hu⟩
    · exact ⟨_, runCommand_of_error hd _, rfl⟩

/-! ### The hidden `crc` (10 R34; log entry 12) -/

theorem byteAt_overlay {new : List Byte} (old : List Byte) {j : Nat} (h : j < new.length) :
    byteAt (overlay new old) j = byteAt new j := by
  rw [byteAt, overlay_getElem?_lt new old h, byteAt]

/-- A WRITE of one word or more leaves the CRC of its last word in the engine. -/
theorem crcOfWords_txWords (s : State) (c : Byte) {n : Nat} (hn : n ≠ 0) :
    crcOfWords (txWords s n) c = crc8 (hiByte (txwValue s (n - 1))) (loByte (txwValue s (n - 1))) := by
  obtain ⟨m, rfl⟩ := Nat.exists_eq_succ_of_ne_zero hn
  rw [txWords_succ, crcOfWords_append_singleton, Nat.succ_sub_one]

/-- The engine after a loop in which no CRC failed holds the CRC of the last two bytes kept, and there are two. -/
theorem runGroups_crc_of_ok (mode : ReadMode) (c : Byte) {l : List Byte} (hl : 3 ≤ l.length)
    (hok : (runGroups mode c l).ok = true) :
    let out := (runGroups mode c l).out
    2 ≤ out.length ∧
      (runGroups mode c l).crc = crc8 (byteAt out (out.length - 2)) (byteAt out (out.length - 1)) := by
  intro out
  rcases runGroups_crc mode c l hok with ⟨hnil, -⟩ | ⟨before, d0, d1, hout, hcrc⟩
  · exact absurd hnil (runGroups_out_ne_nil mode c hl hok)
  · simp [out, hout, hcrc, byteAt]

/-- Settles O55: in the order of each command's loop, the last group is the last word or the last two bytes. -/
theorem engineHoldsTheLastCrc : Obligations.EngineHoldsTheLastCrc := by
  refine ⟨fun b0 b1 s t h => ?_, fun b0 b1 c s t h => ?_, fun n op s t h => ?_, fun mode n s t h hstatus => ?_⟩
  · cases h
    exact ⟨rfl, rfl⟩
  · cases (execCheck_eq b0 b1 c s).symm.trans h
    exact ⟨rfl, rfl⟩
  · rcases exec_write_next h with ⟨hbad, rfl⟩ | ⟨h0, hn, -, rfl⟩
    · exact ⟨fun ⟨h0, hn, _⟩ => writeChecks_exclusive h0 hn hbad, fun _ => rfl⟩
    · refine ⟨fun ⟨_, _, hne⟩ => ?_, fun hnone => ?_⟩
      · exact crcOfWords_txWords s s.crc fun hz => hne (BitVec.eq_of_toNat_eq hz)
      obtain hop | hgt | rfl := hnone
      · exact absurd hop h0
      · exact absurd hgt (Nat.not_lt.2 hn)
      · rfl
  · cases exec_readInstr_next h
    rcases readDecode_fails_or_completes mode n.toNat s with
      ⟨hbad, -⟩ | ⟨-, ⟨hlow, -⟩, l, -, hl, hok, hcrc, hlen, hrxd⟩
    · exact absurd hstatus hbad
    · have hgroup : 3 ≤ l.length := by
        rw [hl, requestLength]
        omega
      obtain ⟨htwo, hlast⟩ := runGroups_crc_of_ok mode s.crc hgroup hok
      rw [hlen, rxlen_toNat_of_response mode s.crc hl, hcrc, hrxd, byteAt_overlay _ (by omega),
        byteAt_overlay _ (by omega)]
      exact ⟨htwo, hlast⟩

end Sys2Proof.Machine
end

section
/-! The transport's side (20_memory.md): the calls each command makes and the answers it takes (R57, R58, R62), and
which parts of the state have a part in what a command does (R59, R66). -/

namespace Sys2Proof.Machine

/-! ### The calls and answers of a read (42 R142, R143) -/

/-- Once the transport has answered, a read makes no call and takes no answer. -/
theorem takeResponse_keeps_transport (mode : ReadMode) (n : Nat) (a : ReadAnswer) (s : State) :
    let t := takeResponse mode n a s
    t.calls = s.calls ∧ t.readAnswers = s.readAnswers ∧ s.free ≤ t.free := by
  rcases takeResponse_cases mode n a s with ⟨e, -, h⟩ | ⟨l, -, -, h⟩ | ⟨l, -, -, h⟩
  · simp [h]
  · simp [h]
  · rw [h]
    rcases endRead_cases mode n (runGroups mode s.crc l) (consumeGroups mode (loadRxq l s)) with
      ⟨-, he⟩ | ⟨-, -, -, he⟩ | ⟨-, -, he⟩ <;> simp [he]

theorem readDecode_calls (mode : ReadMode) (n : Nat) (s : State) :
    (readDecode mode n s).calls =
      s.calls ++ if 2 ≤ n ∧ n ≤ s.cfg.maxRxData then [.read s.busaddr (requestLength n)] else [] := by
  rcases readDecode_cases mode n s with ⟨hr, h⟩ | ⟨hr, h⟩
  · simp [h, hr]
  · obtain ⟨hcalls, -, -⟩ := takeResponse_keeps_transport mode n (readAnswer s) (transportRead (requestLength n) s)
    simp [h, hr, hcalls]

theorem readDecode_readAnswers (mode : ReadMode) (n : Nat) (s : State) :
    (readDecode mode n s).readAnswers =
      if 2 ≤ n ∧ n ≤ s.cfg.maxRxData then s.readAnswers.tail else s.readAnswers := by
  rcases readDecode_cases mode n s with ⟨hr, h⟩ | ⟨hr, h⟩
  · simp [h, hr]
  · obtain ⟨-, hanswers, -⟩ :=
      takeResponse_keeps_transport mode n (readAnswer s) (transportRead (requestLength n) s)
    simp [h, hr, hanswers]

/-- A read that makes its call has drawn an answer (20 R58). -/
theorem readDecode_free_lt (mode : ReadMode) (n : Nat) (s : State) (hcall : (readDecode mode n s).calls ≠ s.calls) :
    s.free < (readDecode mode n s).free := by
  rcases readDecode_cases mode n s with ⟨-, h⟩ | ⟨-, h⟩
  · simp [h] at hcall
  · obtain ⟨-, -, hfree⟩ := takeResponse_keeps_transport mode n (readAnswer s) (transportRead (requestLength n) s)
    rw [h]
    exact Nat.lt_of_succ_le hfree

/-! ### The calls and answers of a command and of a step (20 R57, R62) -/

/-- A WRITE past its checks hands its whole frame to the transport and takes one answer; it never reads (41 R121). -/
theorem exec_write_transport {n : BitVec 8} {op : Word} {s t : State} (h : exec (.write n op) s = .next t) :
    (t.calls = s.calls ++
      if op ≠ 0 ∧ n.toNat ≤ s.cfg.maxTxWords then [.write s.busaddr (frame op (txWords s n.toNat))] else []) ∧
    (t.writeAnswers =
      if op ≠ 0 ∧ n.toNat ≤ s.cfg.maxTxWords then s.writeAnswers.tail else s.writeAnswers) ∧
    t.readAnswers = s.readAnswers := by
  rcases exec_write_next h with ⟨hbad, rfl⟩ | ⟨h0, hn, -, rfl⟩
  · have hchecks : ¬ (op ≠ 0 ∧ n.toNat ≤ s.cfg.maxTxWords) := fun ⟨h0, hn⟩ => writeChecks_exclusive h0 hn hbad
    rw [if_neg hchecks, if_neg hchecks]
    simp
  · rw [if_pos ⟨h0, hn⟩, if_pos ⟨h0, hn⟩]
    exact ⟨rfl, rfl, rfl⟩

/-- A command that makes a call has drawn an answer. -/
theorem exec_free_lt {i : Instr} {s t : State} (h : exec i s = .next t) (hcall : t.calls ≠ s.calls) :
    s.free < t.free := by
  rcases exec_next_cases h with ⟨_, _, -, rfl⟩ | ⟨_, _, _, -, rfl⟩ | ⟨_, _, -, -, rfl⟩ |
    ⟨_, _, -, -, -, -, rfl⟩ | ⟨mode, n, -, rfl⟩
  · exact absurd rfl hcall
  · exact absurd rfl hcall
  · exact absurd rfl hcall
  · exact Nat.lt_succ_self s.free
  · exact readDecode_free_lt mode n.toNat s hcall

/-- A step that answers makes at most one call: only a CMD write makes any. -/
theorem step_calls {s t : State} (h : step s = .next t) :
    t.calls = s.calls ∨ ∃ call, t.calls = s.calls ++ [call] := by
  rcases step_next h with ⟨-, rfl⟩ | ⟨a, rest, -, ha⟩
  · exact .inl rfl
  cases a with
  | write r v =>
    rcases hostWrite_next ha with ⟨-, hc⟩ | ⟨-, rfl⟩ | ⟨i, -, rfl⟩ | rfl
    · obtain ⟨-, -, hcommand, -⟩ := busaddrRule
      obtain ⟨-, hnone | ⟨f, hwrite⟩ | ⟨k, hread⟩⟩ := hcommand v _ t hc
      · exact .inl hnone
      · exact .inr ⟨_, hwrite⟩
      · exact .inr ⟨_, hread⟩
    · exact .inl rfl
    · exact .inl rfl
    · exact .inl rfl
  | read r => rw [hostRead_next ha]; exact .inl rfl
  | reset => cases ha; exact .inl rfl

/-- Settles O44: only a sent frame and a read with N in range reach the transport, once each. -/
theorem transportCallsPerCommand : Obligations.TransportCallsPerCommand := by
  refine ⟨fun c s t h => ?_, fun c s t h => ?_, fun s t h => step_calls h⟩
  · rcases runCommand_next h with ⟨i, hd, he⟩ | ⟨e, hd, rfl⟩
    · rw [hd]
      cases i with
      | crc8 b0 b1 => cases he; simp
      | check b0 b1 g => cases (execCheck_eq b0 b1 g s).symm.trans he; simp
      | write n op => exact (exec_write_transport he).1
      | readf n => cases he; exact readDecode_calls .fixed n.toNat s
      | readz n => cases he; exact readDecode_calls .zero n.toNat s
    · simp [hd]
  · rcases runCommand_next h with ⟨i, hd, he⟩ | ⟨e, hd, rfl⟩
    · rw [hd, ← and_assoc]
      refine ⟨?_, exec_free_lt he⟩
      cases i with
      | crc8 b0 b1 => cases he; exact ⟨rfl, rfl⟩
      | check b0 b1 g => cases (execCheck_eq b0 b1 g s).symm.trans he; exact ⟨rfl, rfl⟩
      | write n op => exact (exec_write_transport he).2
      | readf n =>
        cases he
        exact ⟨readDecode_writeAnswers .fixed n.toNat s, readDecode_readAnswers .fixed n.toNat s⟩
      | readz n =>
        cases he
        exact ⟨readDecode_writeAnswers .zero n.toNat s, readDecode_readAnswers .zero n.toNat s⟩
    · simp [hd]

/-! ### The CRC commands repeat (20 R59) -/

/-- CRCOUT, the engine's register and STATUS are written with values that do not depend on the state. -/
theorem raise_crcToOut_idem (k : Kind) (b0 b1 : Byte) (s : State) :
    raise k (crcToOut b0 b1 (raise k (crcToOut b0 b1 s))) = raise k (crcToOut b0 b1 s) := rfl

/-- Settles O45: both commands write what their operands alone settle. -/
theorem crcCommandsRepeat : Obligations.CrcCommandsRepeat := by
  refine ⟨fun b0 b1 s t h => ?_, fun b0 b1 c s t h => ?_⟩
  · cases h
    exact congrArg Host.Outcome.next (raise_crcToOut_idem .ok b0 b1 s)
  · cases (execCheck_eq b0 b1 c s).symm.trans h
    rw [exec, execCheck_eq, raise_crcToOut_idem]

/-! ### What a command reads (20 R66, 40 R102, 60 R178) -/

/-- Two states that agree in what a command may read: the parameters, BUSADDR, TXW and the transport's answers. -/
structure SameInputs (s t : State) : Prop where
  cfg : s.cfg = t.cfg
  busaddr : s.busaddr = t.busaddr
  txw : s.txw = t.txw
  writeAnswers : s.writeAnswers = t.writeAnswers
  readAnswers : s.readAnswers = t.readAnswers
  free : s.free = t.free

/-- Two states in which the host reads the same result of a read: STATUS, RXLEN and the data bytes (42 R150). -/
def SameResponse (u v : State) : Prop :=
  u.status = v.status ∧ u.rxlen = v.rxlen ∧ u.rxd.take u.rxlen.toNat = v.rxd.take v.rxlen.toNat

/-- Below the length register, 8 bits wide, an array holds the bytes just written, whatever it held before. -/
theorem overlay_take_ofNat_length (new a b : List Byte) :
    (overlay new a).take (BitVec.ofNat 8 new.length).toNat =
      (overlay new b).take (BitVec.ofNat 8 new.length).toNat := by
  have hle := length_ofNat_toNat_le new
  rw [overlay, overlay, List.take_append_of_le_length hle, List.take_append_of_le_length hle]

theorem sameResponse_failRead (k : Kind) (s t : State) : SameResponse (failRead k s) (failRead k t) :=
  ⟨rfl, rfl, rfl⟩

theorem sameResponse_completeRead (out : List Byte) (s t : State) :
    SameResponse (completeRead out s) (completeRead out t) :=
  ⟨rfl, rfl, overlay_take_ofNat_length _ _ _⟩

theorem sameResponse_endRead (mode : ReadMode) (n : Nat) {run run' : GroupRun} (s t : State)
    (hok : run.ok = run'.ok) (hout : run.out = run'.out) :
    SameResponse (endRead mode n run s) (endRead mode n run' t) := by
  rw [endRead, endRead, ← hok, ← hout]
  split_ifs
  · exact sameResponse_failRead .protocol s t
  · exact sameResponse_failRead .dataLength s t
  · exact sameResponse_completeRead run.out s t

/-- The transport's answer settles the result of a read, whatever state takes it. -/
theorem sameResponse_takeResponse (mode : ReadMode) (n : Nat) (a : ReadAnswer) (s t : State) :
    SameResponse (takeResponse mode n a s) (takeResponse mode n a t) := by
  cases a with
  | error e => exact sameResponse_failRead _ s t
  | bytes l =>
    obtain ⟨hok, hout⟩ := runGroups_ok_out_of_any_crc mode s.crc t.crc l
    simp only [takeResponse]
    split_ifs
    · exact sameResponse_failRead .protocol _ _
    · exact sameResponse_endRead mode n _ _ hok hout

section
variable {s t : State} (h : SameInputs s t)
include h

theorem SameInputs.agreeTxw : AgreeTxw s t :=
  ⟨congrArg _ h.txw, fun k => ⟨by rw [txwWritten, txwWritten, h.txw], fun _ => by rw [txwValue, txwValue, h.txw]⟩⟩

theorem SameInputs.writeAnswer_eq : writeAnswer s = writeAnswer t := by
  rw [writeAnswer, writeAnswer, h.writeAnswers, h.free]

theorem SameInputs.readAnswer_eq : readAnswer s = readAnswer t := by
  rw [readAnswer, readAnswer, h.readAnswers, h.free]

theorem SameInputs.sameResponse_readDecode (mode : ReadMode) (n : Nat) :
    SameResponse (readDecode mode n s) (readDecode mode n t) := by
  rw [readDecode, readDecode, countInRange, countInRange, ← h.cfg, ← h.readAnswer_eq]
  split_ifs
  · exact sameResponse_takeResponse mode n _ _ _
  · exact sameResponse_failRead .invalidParameter s t

theorem SameInputs.readDecode_newCalls (mode : ReadMode) (n : Nat) :
    ∃ new, (readDecode mode n s).calls = s.calls ++ new ∧ (readDecode mode n t).calls = t.calls ++ new :=
  ⟨_, readDecode_calls mode n s, by rw [readDecode_calls, h.cfg, h.busaddr]⟩

/-- A WRITE stops alike in both states, or gives the same STATUS, new call, TXLEN and frame (10 R26, R27). -/
theorem SameInputs.sameOutcome_execWrite (n : BitVec 8) (op : Word) :
    SameOutcome (fun u v => u.status = v.status ∧ (∃ new, u.calls = s.calls ++ new ∧ v.calls = t.calls ++ new) ∧
        u.txlen = v.txlen ∧ u.txf.take u.txlen.toNat = v.txf.take v.txlen.toNat)
      (execWrite n op s) (execWrite n op t) := by
  rw [execWrite, execWrite, ← h.cfg, ← firstUnwritten_congr h.agreeTxw]
  split_ifs
  · exact ⟨rfl, ⟨[], by simp⟩, rfl, rfl⟩
  · exact ⟨rfl, ⟨[], by simp⟩, rfl, rfl⟩
  · cases hfirst : firstUnwritten s n.toNat with
    | some k => rfl
    | none =>
      have hall := (firstUnwritten_none_iff s n.toNat).1 hfirst
      rw [← txWords_congr h.agreeTxw hall]
      exact ⟨by simp [h.writeAnswer_eq], ⟨_, sendFrame_calls _ _ _, by simp [h.busaddr]⟩, rfl,
        overlay_take_ofNat_length _ _ _⟩

end

/-- Settles O46: each command's result is a function of its operands and its inputs. -/
theorem commandsReadOnlyTheirInputs : Obligations.CommandsReadOnlyTheirInputs := by
  refine ⟨fun i s t hcfg hbus htxw hwrite hread hfree => ?_, fun i s t h => ?_⟩
  · have h : SameInputs s t := ⟨hcfg, hbus, htxw, hwrite, hread, hfree⟩
    cases i with
    | crc8 b0 b1 => exact ⟨rfl, ⟨[], by simp⟩, rfl⟩
    | check b0 b1 c =>
      rw [exec, exec, execCheck_eq, execCheck_eq]
      exact ⟨rfl, ⟨[], by simp⟩, rfl⟩
    | write n op => exact h.sameOutcome_execWrite n op
    | readf n =>
      obtain ⟨hstatus, hresult⟩ := h.sameResponse_readDecode .fixed n.toNat
      exact ⟨hstatus, h.readDecode_newCalls .fixed n.toNat, hresult⟩
    | readz n =>
      obtain ⟨hstatus, hresult⟩ := h.sameResponse_readDecode .zero n.toNat
      exact ⟨hstatus, h.readDecode_newCalls .zero n.toNat, hresult⟩
  · obtain ⟨-, hbus, htxw, -⟩ := exec_keeps_host_side h
    exact ⟨htxw, hbus⟩

end Sys2Proof.Machine
end

section
/-! The command word (30_encoding.md): how words and command words are put together from their fields, the decoder
OP by OP, and that encoder and decoder undo each other. -/

namespace Sys2Proof

/-! ### The bytes of a word (30 R74) -/

theorem hiByte_append_loByte (w : Word) : hiByte w ++ loByte w = w :=
  (BitVec.extractLsb'_append_extractLsb'_eq_extractLsb' rfl).trans BitVec.extractLsb'_eq_self

@[simp] theorem hiByte_append (hi lo : Byte) : hiByte (hi ++ lo) = hi := BitVec.extractLsb'_append_eq_left

@[simp] theorem loByte_append (hi lo : Byte) : loByte (hi ++ lo) = lo := BitVec.extractLsb'_append_eq_right

/-- Joining two bytes puts the first above the second. -/
theorem Machine.joinBytes_eq_append (hi lo : Byte) : joinBytes hi lo = hi ++ lo := by
  rw [joinBytes, ← BitVec.setWidth_append_eq_shiftLeft_setWidth_or, BitVec.setWidth_eq]

/-- Settles O15: a word is its high byte before its low byte, and joining puts two bytes in that order. -/
theorem wordSplitJoin : Obligations.WordSplitJoin := by
  refine ⟨fun w => ⟨rfl, rfl⟩, fun hi lo => rfl, fun w => ?_, fun hi lo => ?_⟩
  · rw [Machine.joinBytes_eq_append, hiByte_append_loByte]
  · rw [Machine.joinBytes_eq_append]
    exact ⟨hiByte_append hi lo, loByte_append hi lo⟩

/-! ### The fields of a command word (30 R77, R79) -/

/-- The CMD word with the fields OP, CNT and DATA, and with RSV 0. -/
def commandWord (op : BitVec 4) (cnt : BitVec 8) (data : Word) : CmdWord := op ++ 0x0#4 ++ cnt ++ data

section
variable (op : BitVec 4) (cnt : BitVec 8) (data : Word)

@[simp] theorem cmdData_commandWord : cmdData (commandWord op cnt data) = data :=
  BitVec.extractLsb'_append_eq_right

@[simp] theorem cmdCnt_commandWord : cmdCnt (commandWord op cnt data) = cnt := by
  rw [cmdCnt, commandWord, BitVec.extractLsb'_append_eq_of_le (by decide)]
  exact BitVec.extractLsb'_append_eq_right

@[simp] theorem cmdRsv_commandWord : cmdRsv (commandWord op cnt data) = 0 := by
  rw [cmdRsv, commandWord, BitVec.extractLsb'_append_eq_of_le (by decide),
    BitVec.extractLsb'_append_eq_of_le (by decide)]
  exact BitVec.extractLsb'_append_eq_right

@[simp] theorem cmdOp_commandWord : cmdOp (commandWord op cnt data) = op := by
  rw [cmdOp, commandWord, BitVec.extractLsb'_append_eq_of_le (by decide),
    BitVec.extractLsb'_append_eq_of_le (by decide)]
  exact BitVec.extractLsb'_append_eq_left

end

/-- A word whose RSV is 0 is made of its other three fields. -/
theorem commandWord_of_fields {c : CmdWord} (hrsv : cmdRsv c = 0) :
    commandWord (cmdOp c) (cmdCnt c) (cmdData c) = c := by
  have fields : cmdOp c ++ cmdRsv c ++ cmdCnt c ++ cmdData c = c := by
    rw [cmdOp, cmdRsv, cmdCnt, cmdData,
      BitVec.extractLsb'_append_extractLsb'_eq_extractLsb' (show 28 = 24 + 4 from rfl),
      BitVec.extractLsb'_append_extractLsb'_eq_extractLsb' (show 24 = 16 + 8 from rfl),
      BitVec.extractLsb'_append_extractLsb'_eq_extractLsb' (show 16 = 0 + 16 from rfl)]
    exact BitVec.extractLsb'_eq_self
  rwa [hrsv] at fields

/-! The encoder, field by field (30 R79). -/

theorem encode_crc8 (b0 b1 : Byte) : encode (.crc8 b0 b1) = commandWord 0x1 0 (b0 ++ b1) :=
  BitVec.append_assoc

theorem encode_check (b0 b1 c : Byte) : encode (.check b0 b1 c) = commandWord 0x2 c (b0 ++ b1) :=
  BitVec.append_assoc

theorem encode_write (n : BitVec 8) (op : Word) : encode (.write n op) = commandWord 0x3 n op := rfl

theorem encode_readf (n : BitVec 8) : encode (.readf n) = commandWord 0x4 n 0 := rfl

theorem encode_readz (n : BitVec 8) : encode (.readz n) = commandWord 0x5 n 0 := rfl

/-! ### The decoder, OP by OP (30 R80, R83) -/

/-- OP names one of the five commands or is reserved (30 R78, R80). -/
theorem op_cases : ∀ op : BitVec 4,
    op = 0x1 ∨ op = 0x2 ∨ op = 0x3 ∨ op = 0x4 ∨ op = 0x5 ∨ (op = 0x0 ∨ 6 ≤ op.toNat) := by decide

theorem decode_of_rsv_ne {c : CmdWord} (hrsv : cmdRsv c ≠ 0) : decode c = .error .reservedRsv := if_pos hrsv

section
variable {c : CmdWord} (hrsv : cmdRsv c = 0)
include hrsv

theorem decode_of_op_crc8 (hop : cmdOp c = 0x1) : decode c =
    if cmdCnt c ≠ 0 then .error .reservedField else .ok (.crc8 (hiByte (cmdData c)) (loByte (cmdData c))) := by
  simp [decode, hrsv, hop]

theorem decode_of_op_check (hop : cmdOp c = 0x2) :
    decode c = .ok (.check (hiByte (cmdData c)) (loByte (cmdData c)) (cmdCnt c)) := by
  simp [decode, hrsv, hop]

theorem decode_of_op_write (hop : cmdOp c = 0x3) : decode c = .ok (.write (cmdCnt c) (cmdData c)) := by
  simp [decode, hrsv, hop]

theorem decode_of_op_readf (hop : cmdOp c = 0x4) :
    decode c = if cmdData c ≠ 0 then .error .reservedField else .ok (.readf (cmdCnt c)) := by
  simp [decode, hrsv, hop]

theorem decode_of_op_readz (hop : cmdOp c = 0x5) :
    decode c = if cmdData c ≠ 0 then .error .reservedField else .ok (.readz (cmdCnt c)) := by
  simp [decode, hrsv, hop]

theorem decode_of_op_reserved (hop : cmdOp c = 0x0 ∨ 6 ≤ (cmdOp c).toNat) : decode c = .error .reservedOp := by
  have none_of_five : ∀ op : BitVec 4, op = 0x0 ∨ 6 ≤ op.toNat →
      op ≠ 0x1 ∧ op ≠ 0x2 ∧ op ≠ 0x3 ∧ op ≠ 0x4 ∧ op ≠ 0x5 := by decide
  obtain ⟨h1, h2, h3, h4, h5⟩ := none_of_five _ hop
  rw [decode, if_neg (not_not_intro hrsv), if_neg h1, if_neg h2, if_neg h3, if_neg h4, if_neg h5]

end

/-- Settles O4: the decoder of the command's OP reads back each operand from the field the encoder put it in. -/
theorem decodeEncodeRoundTrip : Obligations.DecodeEncodeRoundTrip := by
  intro i
  cases i with
  | crc8 b0 b1 => rw [encode_crc8, decode_of_op_crc8 (by simp) (by simp)]; simp
  | check b0 b1 c => rw [encode_check, decode_of_op_check (by simp) (by simp)]; simp
  | write n op => rw [encode_write, decode_of_op_write (by simp) (by simp)]; simp
  | readf n => rw [encode_readf, decode_of_op_readf (by simp) (by simp)]; simp
  | readz n => rw [encode_readz, decode_of_op_readz (by simp) (by simp)]; simp

/-- Settles O5: an accepted word has RSV 0, so it is made of the fields its command was read from. -/
theorem encodeDecodeRoundTrip : Obligations.EncodeDecodeRoundTrip := by
  intro c i h
  by_cases hrsv : cmdRsv c = 0
  · conv_rhs => rw [← commandWord_of_fields hrsv]
    rcases op_cases (cmdOp c) with hop | hop | hop | hop | hop | hop
    · rw [decode_of_op_crc8 hrsv hop] at h
      split_ifs at h with hcnt
      cases h
      rw [encode_crc8, hiByte_append_loByte, hop, of_not_not hcnt]
    · cases (decode_of_op_check hrsv hop).symm.trans h
      rw [encode_check, hiByte_append_loByte, hop]
    · cases (decode_of_op_write hrsv hop).symm.trans h
      rw [encode_write, hop]
    · rw [decode_of_op_readf hrsv hop] at h
      split_ifs at h with hdata
      cases h
      rw [encode_readf, hop, of_not_not hdata]
    · rw [decode_of_op_readz hrsv hop] at h
      split_ifs at h with hdata
      cases h
      rw [encode_readz, hop, of_not_not hdata]
    · cases (decode_of_op_reserved hrsv hop).symm.trans h
  · cases (decode_of_rsv_ne hrsv).symm.trans h

/-- The rejected words of 30 R80. -/
theorem decode_error_of_reserved {c : CmdWord}
    (h : cmdOp c = 0 ∨ 6 ≤ (cmdOp c).toNat ∨ cmdRsv c ≠ 0 ∨ (cmdOp c = 1 ∧ cmdCnt c ≠ 0) ∨
      ((cmdOp c = 4 ∨ cmdOp c = 5) ∧ cmdData c ≠ 0)) : ∃ e, decode c = .error e := by
  by_cases hrsv : cmdRsv c = 0
  · rcases h with hop | hop | hne | ⟨hop, hcnt⟩ | ⟨hop | hop, hdata⟩
    · exact ⟨_, decode_of_op_reserved hrsv (.inl hop)⟩
    · exact ⟨_, decode_of_op_reserved hrsv (.inr hop)⟩
    · exact absurd hrsv hne
    · exact ⟨_, (decode_of_op_crc8 hrsv hop).trans (if_pos hcnt)⟩
    · exact ⟨_, (decode_of_op_readf hrsv hop).trans (if_pos hdata)⟩
    · exact ⟨_, (decode_of_op_readz hrsv hop).trans (if_pos hdata)⟩
  · exact ⟨_, decode_of_rsv_ne hrsv⟩

/-- Settles O6: the decoder rejects the words of 30 R80, and of any other word each must-be-0 field is 0. -/
theorem reservedWordsExactly : Obligations.ReservedWordsExactly := by
  intro c s op cnt data reserved
  refine ⟨fun h => ?_, fun h => ?_⟩
  · obtain ⟨e, he⟩ := decode_error_of_reserved h
    exact ⟨⟨e, he⟩, Machine.runCommand_of_error he s⟩
  · simp only [reserved, not_or, not_and, not_not] at h
    obtain ⟨-, -, hrsv, hcnt, hdata⟩ := h
    refine ⟨fun hop => ?_, decode_of_op_check hrsv, decode_of_op_write hrsv, fun hop => ?_, fun hop => ?_⟩
    · exact (decode_of_op_crc8 hrsv hop).trans (if_neg (not_not_intro (hcnt hop)))
    · exact (decode_of_op_readf hrsv hop).trans (if_neg (not_not_intro (hdata (.inl hop))))
    · exact (decode_of_op_readz hrsv hop).trans (if_neg (not_not_intro (hdata (.inr hop))))

/-- Settles O3: five encodings, and the three reasons of rejection. -/
theorem sampleWordsDecode : Obligations.SampleWordsDecode :=
  ⟨decodeEncodeRoundTrip (.crc8 0xBE 0xEF), decodeEncodeRoundTrip (.check 0xBE 0xEF 0x92),
    decodeEncodeRoundTrip (.write 2 0x1234), decodeEncodeRoundTrip (.readf 4), decodeEncodeRoundTrip (.readz 6),
    decode_of_rsv_ne (by decide), decode_of_op_reserved (by decide) (by decide),
    (decode_of_op_readf (by decide) (by decide)).trans (if_pos (by decide))⟩

end Sys2Proof
end

section
/-! The pattern of a signed parameter, and the group of bytes in which a frame carries it (30 R75, 41 R120). -/

namespace Sys2Proof.Machine

theorem signedPattern_toNat (v : Int) : (signedPattern v).toNat = (v % 65536).toNat := BitVec.toNat_ofInt v

theorem signedPattern_toInt {v : Int} (hlow : -32768 ≤ v) (hhigh : v ≤ 32767) : (signedPattern v).toInt = v :=
  BitVec.toInt_ofInt_eq_self (by decide) hlow (Int.lt_add_one_of_le hhigh)

theorem wordGroups_getElem? {ws : List Word} {k : Nat} {w : Word} (hw : ws[k]? = some w) {j : Nat} (hj : j < 3) :
    (ws.flatMap wordGroup)[3 * k + j]? = (wordGroup w)[j]? := by
  induction ws generalizing k with
  | nil => cases hw
  | cons w' ws ih =>
    rw [List.flatMap_cons]
    cases k with
    | zero =>
      cases hw
      rw [Nat.mul_zero, Nat.zero_add]
      exact List.getElem?_append_left hj
    | succ k =>
      have hafter : (wordGroup w').length ≤ 3 * (k + 1) + j := Nat.le_add_right_of_le (by simp [wordGroup])
      rw [List.getElem?_append_right hafter, ← ih hw]
      exact congrArg _ (show 3 * (k + 1) + j - 3 = 3 * k + j by omega)

/-- The group of parameter word `k` begins at byte 2 + 3·k of the frame (41 R120, R126). -/
theorem frame_getElem?_group (op : Word) {ws : List Word} {k : Nat} {w : Word} (hw : ws[k]? = some w) {j : Nat}
    (hj : j < 3) : (frame op ws)[2 + 3 * k + j]? = (wordGroup w)[j]? := by
  rw [frame, List.getElem?_append_right (by simp; omega), ← wordGroups_getElem? hw hj]
  exact congrArg _ (show 2 + 3 * k + j - 2 = 3 * k + j by omega)

/-- Settles O16: the pattern is the parameter modulo 2^16, and a frame carries it as it carries any word. -/
theorem signedParameterPattern : Obligations.SignedParameterPattern := by
  refine ⟨fun v hlow hhigh => ?_, fun op vs k v hv => ?_, by decide, by decide, by decide⟩
  · have hnat := signedPattern_toNat v
    exact ⟨by omega, by omega, signedPattern_toInt hlow hhigh, by omega⟩
  · have hpattern : (vs.map signedPattern)[k]? = some (signedPattern v) := by simp [hv]
    refine ⟨frame_getElem?_group op hpattern (j := 0) (by decide), ?_⟩
    have hlo := frame_getElem?_group op hpattern (j := 1) (by decide)
    rwa [show 2 + 3 * k + 1 = 3 + 3 * k by omega] at hlo

end Sys2Proof.Machine
end

section
/-! The assembler (30 R85, R86): the CMD value of each line is the encoding of its command, and a line assembles
exactly when its operands fit. -/

namespace Sys2Proof.Machine

/-! ### CMD values as numbers and as words -/

/-- Shifting one number above another puts their bits side by side. -/
theorem ofNat_append_ofNat (v w a : Nat) {b : Nat} (hb : b < 2 ^ w) :
    BitVec.ofNat v a ++ BitVec.ofNat w b = BitVec.ofNat (v + w) (a <<< w ||| b) := by
  apply BitVec.eq_of_getLsbD_eq
  intro i hi
  rw [BitVec.getLsbD_append, BitVec.getLsbD_ofNat, BitVec.getLsbD_ofNat, BitVec.getLsbD_ofNat, Nat.testBit_or,
    Nat.testBit_shiftLeft]
  by_cases hlow : i < w
  · simp [hlow, hi, Nat.not_le.2 hlow]
  · have hbit : b.testBit i = false :=
      Nat.testBit_lt_two_pow (hb.trans_le (Nat.pow_le_pow_right (by decide) (Nat.le_of_not_lt hlow)))
    simp [hlow, hbit, hi, Nat.le_of_not_lt hlow, show i - w < v by omega]

theorem commandWord_ofNat (op : Nat) {cnt data : Nat} (hcnt : cnt < 256) (hdata : data < 65536) :
    commandWord (BitVec.ofNat 4 op) (BitVec.ofNat 8 cnt) (BitVec.ofNat 16 data) =
      BitVec.ofNat 32 (op <<< 28 ||| cnt <<< 16 ||| data) := by
  rw [commandWord, ofNat_append_ofNat 4 4 op (by decide), ofNat_append_ofNat 8 8 _ hcnt,
    ofNat_append_ofNat 16 16 _ hdata, Nat.or_zero, Nat.shiftLeft_or_distrib, ← Nat.shiftLeft_add,
    ← Nat.shiftLeft_add]

theorem commandWord_ofNat_bytes (op : Nat) {cnt b0 b1 : Nat} (hcnt : cnt < 256) (h0 : b0 < 256) (h1 : b1 < 256) :
    commandWord (BitVec.ofNat 4 op) (BitVec.ofNat 8 cnt) (BitVec.ofNat 8 b0 ++ BitVec.ofNat 8 b1) =
      BitVec.ofNat 32 (op <<< 28 ||| cnt <<< 16 ||| b0 <<< 8 ||| b1) := by
  have hdata : b0 <<< 8 ||| b1 < 65536 := Nat.or_lt_two_pow (n := 16) (by omega) (by omega)
  rw [ofNat_append_ofNat 8 8 b0 h1, Nat.or_assoc _ (b0 <<< 8)]
  exact commandWord_ofNat op hcnt hdata

theorem issue_cmdCrc8 {b0 b1 : Nat} (h0 : b0 < 256) (h1 : b1 < 256) :
    issue (cmdCrc8 b0 b1) = .write .cmd (encode (.crc8 (BitVec.ofNat 8 b0) (BitVec.ofNat 8 b1))) := by
  rw [encode_crc8]
  exact congrArg _ (commandWord_ofNat_bytes 0x1 (cnt := 0) (by decide) h0 h1).symm

theorem issue_cmdCheck {b0 b1 c : Nat} (h0 : b0 < 256) (h1 : b1 < 256) (hc : c < 256) :
    issue (cmdCheck b0 b1 c) =
      .write .cmd (encode (.check (BitVec.ofNat 8 b0) (BitVec.ofNat 8 b1) (BitVec.ofNat 8 c))) := by
  rw [encode_check]
  exact congrArg _ (commandWord_ofNat_bytes 0x2 hc h0 h1).symm

theorem issue_cmdWrite {n op : Nat} (hn : n < 256) (hop : op < 65536) :
    issue (cmdWrite n op) = .write .cmd (encode (.write (BitVec.ofNat 8 n) (BitVec.ofNat 16 op))) :=
  congrArg _ (commandWord_ofNat 0x3 hn hop).symm

theorem issue_cmdReadf {n : Nat} (hn : n < 256) :
    issue (cmdReadf n) = .write .cmd (encode (.readf (BitVec.ofNat 8 n))) := by
  rw [issue, cmdReadf, ← Nat.or_zero (_ ||| _)]
  exact congrArg _ (commandWord_ofNat 0x4 hn (data := 0) (by decide)).symm

theorem issue_cmdReadz {n : Nat} (hn : n < 256) :
    issue (cmdReadz n) = .write .cmd (encode (.readz (BitVec.ofNat 8 n))) := by
  rw [issue, cmdReadz, ← Nat.or_zero (_ ||| _)]
  exact congrArg _ (commandWord_ofNat 0x5 hn (data := 0) (by decide)).symm

theorem loadTxw_ofNat (i : Nat) {w : Nat} (hw : w < 65536) :
    loadTxw i (BitVec.ofNat 16 w) = .write (.txw i) (BitVec.ofNat 32 w) := by
  rw [loadTxw, BitVec.setWidth_ofNat_of_le_of_lt (by decide) hw]

/-! ### Which operands fit (30 R85) -/

@[simp] theorem fitsU8_iff (v : Nat) : fitsU8 v = true ↔ v < 256 := decide_eq_true_iff

@[simp] theorem fitsU16_iff (v : Nat) : fitsU16 v = true ↔ v < 65536 := decide_eq_true_iff

@[simp] theorem fitsU32_iff (v : Nat) : fitsU32 v = true ↔ v < 2 ^ 32 := decide_eq_true_iff

@[simp] theorem fitsS16_iff (v : Int) : fitsS16 v = true ↔ -32768 ≤ v ∧ v ≤ 32767 := decide_eq_true_iff

/-- A range runs from one element of an array up to another (log entry 11). -/
theorem isRange_iff (lo hi : Reg) : lo.isRange hi = true ↔
    ∃ i k, (lo = .txw i ∧ hi = .txw (i + k)) ∨ (lo = .txf i ∧ hi = .txf (i + k)) ∨
      (lo = .rxd i ∧ hi = .rxd (i + k)) := by
  constructor
  · intro h
    unfold Reg.isRange at h
    split at h
    · obtain ⟨k, rfl⟩ := Nat.exists_eq_add_of_le (of_decide_eq_true h)
      exact ⟨_, k, .inl ⟨rfl, rfl⟩⟩
    · obtain ⟨k, rfl⟩ := Nat.exists_eq_add_of_le (of_decide_eq_true h)
      exact ⟨_, k, .inr (.inl ⟨rfl, rfl⟩)⟩
    · obtain ⟨k, rfl⟩ := Nat.exists_eq_add_of_le (of_decide_eq_true h)
      exact ⟨_, k, .inr (.inr ⟨rfl, rfl⟩)⟩
    · cases h
  · rintro ⟨i, k, ⟨rfl, rfl⟩ | ⟨rfl, rfl⟩ | ⟨rfl, rfl⟩⟩ <;> exact decide_eq_true (Nat.le_add_right i k)

/-! ### The accesses of a line (30 R85, R86) -/

theorem assemble_eq_ite {l : Line} {p : Prop} [Decidable p] {as : List HostAccess} (hfits : l.wellFormed = true ↔ p)
    (has : p → expand l = as) : assemble l = if p then some as else none := by
  rw [assemble]
  by_cases hp : p
  · rw [if_pos hp, if_pos (hfits.2 hp), has hp]
  · rw [if_neg hp, if_neg (mt hfits.1 hp)]

/-- The form most lines have: one access, given by the model as a number and here as an encoding. -/
theorem assemble_one_eq_ite {l : Line} {p : Prop} [Decidable p] {a b : HostAccess} (hfits : l.wellFormed = true ↔ p)
    (hone : expand l = [a]) (hab : p → a = b) : assemble l = if p then some [b] else none :=
  assemble_eq_ite hfits fun hp => by rw [hone, hab hp]

theorem expand_writew {op : Nat} {ws : List Nat} (hop : op < 65536) (hlen : ws.length < 256)
    (hws : ∀ w ∈ ws, w < 65536) : expand (.writew op ws) =
      (ws.mapIdx fun i w => .write (.txw i) (BitVec.ofNat 32 w)) ++
        [.write .cmd (encode (.write (BitVec.ofNat 8 ws.length) (BitVec.ofNat 16 op)))] := by
  have loads : (ws.map (BitVec.ofNat 16)).mapIdx loadTxw =
      ws.mapIdx fun i w => .write (.txw i) (BitVec.ofNat 32 w) := by
    refine List.ext_getElem (by simp) fun i hi _ => ?_
    rw [List.getElem_mapIdx, List.getElem_mapIdx, List.getElem_map]
    exact loadTxw_ofNat i (hws _ (List.getElem_mem _))
  rw [expand, expandWritew, loads, List.length_map, issue_cmdWrite hlen hop]

theorem ofNat_emod_eq_signedPattern (v : Int) : BitVec.ofNat 16 (v % 65536).toNat = signedPattern v := by
  apply BitVec.eq_of_toNat_eq
  rw [signedPattern_toNat, BitVec.toNat_ofNat]
  omega

/-- A `writes` line stands for the `writew` line of its numbers modulo 2^16 (30 R75, R86). -/
theorem expand_writes (op : Nat) (vs : List Int) :
    expand (.writes op vs) = expand (.writew op (vs.map fun v => (v % 65536).toNat)) := by
  rw [expand, expand, List.map_map]
  exact congrArg _ (List.map_congr_left fun v _ => (ofNat_emod_eq_signedPattern v).symm)

theorem writes_wellFormed_iff (op : Nat) (vs : List Int) : Line.wellFormed (.writes op vs) = true ↔
    Line.wellFormed (.writew op (vs.map fun v => (v % 65536).toNat)) = true ∧
      ∀ v ∈ vs, -32768 ≤ v ∧ v ≤ 32767 := by
  have words_fit : ∀ v : Int, (v % 65536).toNat < 65536 := fun v => by omega
  simp [Line.wellFormed, words_fit]

theorem assemble_writes (op : Nat) (vs : List Int) : assemble (.writes op vs) =
    if ∀ v ∈ vs, -32768 ≤ v ∧ v ≤ 32767 then
      assemble (.writew op (vs.map fun v => (v % 65536).toNat)) else none := by
  by_cases hvs : ∀ v ∈ vs, -32768 ≤ v ∧ v ≤ 32767
  · rw [if_pos hvs, assemble, assemble, expand_writes]
    exact if_congr ((writes_wellFormed_iff op vs).trans (and_iff_left hvs)) rfl rfl
  · rw [if_neg hvs]
    exact if_neg fun h => hvs ((writes_wellFormed_iff op vs).1 h).2

theorem indices_add (i k : Nat) : indices i (i + k) = (List.range (k + 1)).map (i + ·) := by
  rw [indices, List.range'_eq_map_range, show i + k + 1 - i = k + 1 by omega]

/-- A range that runs up reads its elements in order (log entry 11). -/
theorem assemble_readRange {lo hi : Reg} {i k : Nat} {elem : Nat → Reg} (hrange : lo.isRange hi = true)
    (hregs : regsBetween lo hi = (indices i (i + k)).map elem) :
    assemble (.readRange lo hi) = some ((List.range (k + 1)).map fun m => .read (elem (i + m))) := by
  rw [assemble, Line.wellFormed, if_pos hrange, expand, hregs, indices_add, List.map_map, List.map_map]
  rfl

/-- Settles O51: each line's check is that its operands fit, and its CMD value is the encoding of its command. -/
theorem assembledWords : Obligations.AssembledWords := by
  refine ⟨fun b0 b1 => ?crc8, fun b0 b1 c => ?check, fun n op => ?write, fun n => ?readf, fun n => ?readz,
    fun op => ?send, fun op ws => ?writew, assemble_writes, fun b0 b1 c => rfl, fun n => rfl, fun v => ?busaddr,
    fun i v => ?txw, fun v => ?cmd, fun r => rfl, fun i k => ?range, fun lo hi h => ?notRange, isRange_iff, rfl⟩
  case crc8 =>
    exact assemble_one_eq_ite (by simp [Line.wellFormed]) rfl fun ⟨h0, h1⟩ => issue_cmdCrc8 h0 h1
  case check =>
    exact assemble_one_eq_ite (by simp [Line.wellFormed, and_assoc]) rfl fun ⟨h0, h1, hc⟩ => issue_cmdCheck h0 h1 hc
  case write =>
    exact assemble_one_eq_ite (by simp [Line.wellFormed]) rfl fun ⟨hn, hop⟩ => issue_cmdWrite hn hop
  case readf => exact assemble_one_eq_ite (by simp [Line.wellFormed]) rfl issue_cmdReadf
  case readz => exact assemble_one_eq_ite (by simp [Line.wellFormed]) rfl issue_cmdReadz
  case send => simp [assemble, Line.wellFormed, expand]
  case writew =>
    exact assemble_eq_ite (by simp [Line.wellFormed, and_assoc]) fun ⟨hop, hlen, hws⟩ => expand_writew hop hlen hws
  case busaddr => exact assemble_one_eq_ite (by simp [Line.wellFormed]) rfl fun _ => rfl
  case txw => exact assemble_one_eq_ite (by simp [Line.wellFormed]) rfl (loadTxw_ofNat i)
  case cmd => exact assemble_one_eq_ite (by simp [Line.wellFormed]) rfl fun _ => rfl
  case range =>
    have hup : decide (i ≤ i + k) = true := decide_eq_true (Nat.le_add_right i k)
    exact ⟨assemble_readRange hup rfl, assemble_readRange hup rfl, assemble_readRange hup rfl⟩
  case notRange => exact if_neg (by simp [Line.wellFormed, h])

end Sys2Proof.Machine
end

section
/-! The run of a `writew` or `writes` line (30 R86): its words are loaded one a step, then the WRITE sends them. -/

namespace Sys2Proof.Machine

/-! ### Runs -/

theorem run_add_of_next {M : Host.Core} {m : Nat} {s t : M.State} (h : M.run m s = .next t) (n : Nat) :
    M.run (m + n) s = M.run n t := by
  induction m generalizing s with
  | zero => cases h; rw [Nat.zero_add]
  | succ m ih =>
    rw [Nat.succ_add]
    simp only [Host.Core.run] at h ⊢
    split at h
    · exact ih h
    · cases h
    · cases h

theorem run_one_of_step {M : Host.Core} {s t : M.State} (h : M.step s = .next t) : M.run 1 s = .next t := by
  simp [Host.Core.run, h]

/-! ### The loads -/

/-- TXW holds the words `ws` from its first element on, all of them written (10 R23, R37). -/
structure HoldsWords (ws : List Word) (s : State) : Prop where
  words : txWords s ws.length = ws
  written : ∀ k < ws.length, txwWritten s k = true

theorem HoldsWords.of_txw_eq {ws : List Word} {s t : State} (h : HoldsWords ws s) (htxw : t.txw = s.txw) :
    HoldsWords ws t := by
  have hvalue (k : Nat) : txwValue t k = txwValue s k := by rw [txwValue, txwValue, htxw]
  have hwritten (k : Nat) : txwWritten t k = txwWritten s k := by rw [txwWritten, txwWritten, htxw]
  exact ⟨(List.map_congr_left fun k _ => hvalue k).trans h.words, fun k hk => (hwritten k).trans (h.written k hk)⟩

theorem HoldsWords.setTxw_append {ws : List Word} {s : State} (h : HoldsWords ws s) (w : Word)
    (hfits : ws.length < s.txw.length) :
    HoldsWords (ws ++ [w]) (setTxw ws.length (w.setWidth 32) s) := by
  obtain ⟨hwritten, hvalue⟩ := txwRead_setTxw_same (w.setWidth 32) hfits
  have below {k : Nat} (hk : k < ws.length) := txwRead_setTxw_ne s (w.setWidth 32) hk.ne
  have hwords : txWords (setTxw ws.length (w.setWidth 32) s) ws.length = ws :=
    (List.map_congr_left fun k hk => (below (List.mem_range.1 hk)).1).trans h.words
  constructor
  · rw [List.length_append, List.length_singleton, txWords_succ, hwords, hvalue]
    simp
  · intro k hk
    rw [List.length_append, List.length_singleton] at hk
    rcases Nat.lt_succ_iff_lt_or_eq.1 hk with hlt | rfl
    · exact (below hlt).2.trans (h.written k hlt)
    · exact hwritten

theorem step_loadTxw {s : State} {i : Nat} {w : Word} {rest : List HostAccess}
    (hq : s.hostq = loadTxw i w :: rest) (hi : i < s.cfg.maxTxWords) :
    step s = .next (setTxw i (w.setWidth 32) { s with hostq := rest }) :=
  (step_of_hostq_cons hq).trans (hostWrite_txw (s := { s with hostq := rest }) _ hi)

/-- The loads of a list of words, one a step, change TXW only and leave it with the words. -/
theorem run_loads {s : State} {ws : List Word} {rest : List HostAccess} (h : s.Inv)
    (hfit : ws.length ≤ s.cfg.maxTxWords) (hq : s.hostq = ws.mapIdx loadTxw ++ rest) :
    ∃ t : State, Host.Core.run Sys2Proof.core ws.length s = .next t ∧ t = { s with txw := t.txw, hostq := rest } ∧
      t.txw.length = s.cfg.maxTxWords ∧ HoldsWords ws t := by
  induction ws using List.reverseRecOn generalizing rest with
  | nil => exact ⟨s, rfl, by cases hq; rfl, h.txwLength, rfl, nofun⟩
  | append_singleton ws w ih =>
    rw [List.length_append, List.length_singleton] at hfit
    rw [List.mapIdx_concat, List.append_assoc] at hq
    obtain ⟨t, hrun, ht, hlen, hholds⟩ := ih (Nat.le_of_succ_le hfit) hq
    have htq : t.hostq = loadTxw ws.length w :: rest := by rw [ht]; rfl
    have hindex : ws.length < t.cfg.maxTxWords := by rw [ht]; exact hfit
    have hroom : ws.length < t.txw.length := hlen.symm ▸ hfit
    refine ⟨setTxw ws.length (w.setWidth 32) { t with hostq := rest }, ?_, ?_, ?_,
      (hholds.setTxw_append w hroom).of_txw_eq rfl⟩
    · rw [List.length_append, run_add_of_next hrun]
      exact run_one_of_step (step_loadTxw htq hindex)
    · conv_lhs => rw [ht]
      rfl
    · rw [setTxw_txw, List.length_set, hlen]

/-! ### The WRITE -/

/-- A WRITE past its checks with its words loaded sends their frame (41 R121). -/
theorem execWrite_of_holdsWords {s : State} {n : BitVec 8} {op : Word} {ws : List Word} (hop : op ≠ 0)
    (hfit : ws.length ≤ s.cfg.maxTxWords) (hn : n.toNat = ws.length) (h : HoldsWords ws s) :
    execWrite n op s = .next (sendFrame op ws s) := by
  rw [execWrite, if_neg hop, hn, if_neg (Nat.not_lt.2 hfit), (firstUnwritten_none_iff s _).2 h.written, h.words]

theorem step_cmdWrite {s : State} {op : Nat} {ws : List Word} (hlow : 0 < op) (hhigh : op < 65536) (hc : s.cfg.Valid)
    (hfit : ws.length ≤ s.cfg.maxTxWords) (h : HoldsWords ws s) (hq : s.hostq = [issue (cmdWrite ws.length op)]) :
    step s = .next (sendFrame (BitVec.ofNat 16 op) ws { s with hostq := [] }) := by
  obtain ⟨-, hmax, -, -⟩ := hc
  have hlen : ws.length < 256 := by omega
  have hn : (BitVec.ofNat 8 ws.length).toNat = ws.length := by rw [BitVec.toNat_ofNat, Nat.mod_eq_of_lt hlen]
  have hop : BitVec.ofNat 16 op ≠ 0 := by
    rw [Ne, ← BitVec.toNat_inj, BitVec.toNat_ofNat, Nat.mod_eq_of_lt hhigh]
    exact hlow.ne'
  rw [issue_cmdWrite hlen hhigh] at hq
  rw [step_of_hostq_cons hq]
  exact (runCommand_of_ok (decodeEncodeRoundTrip _) _).trans
    (execWrite_of_holdsWords hop hfit hn (h.of_txw_eq rfl))

/-- The words of a `writew` or `writes` line are the words its numbers stand for. -/
theorem expand_writew_toNat (op : Nat) (ws : List Word) :
    expand (.writew op (ws.map BitVec.toNat)) = expandWritew op ws := by
  simp [expand, Function.comp_def]

theorem expand_writes_toInt (op : Nat) (ws : List Word) :
    expand (.writes op (ws.map BitVec.toInt)) = expandWritew op ws := by
  simp [expand, Function.comp_def, signedPattern]

/-- Settles O52: the loads leave TXW with the words, and the WRITE then passes its checks. -/
theorem writewSendsItsFrame : Obligations.WritewSendsItsFrame := by
  intro s op ws h hlow hhigh hfit hq
  rw [expand_writew_toNat, expand_writes_toInt, or_self] at hq
  obtain ⟨t, hrun, ht, -, hholds⟩ := run_loads h hfit hq
  have htq : t.hostq = [issue (cmdWrite ws.length op)] := by rw [ht]
  have hcfg : t.cfg = s.cfg := by rw [ht]
  have hcalls : t.calls = s.calls := by rw [ht]
  have hbus : t.busaddr = s.busaddr := by rw [ht]
  have hvalid : t.cfg.Valid := hcfg ▸ h.cfgValid
  have hroom : ws.length ≤ t.cfg.maxTxWords := hcfg ▸ hfit
  have hstep := step_cmdWrite hlow hhigh hvalid hroom hholds htq
  refine ⟨_, (run_add_of_next hrun 1).trans (run_one_of_step hstep), rfl, ?_, ?_⟩
  · rw [sendFrame_calls, hcalls, hbus]
  · exact (sendFrame_txlen_toNat (s := { t with hostq := [] }) _ hvalid hroom).trans (frame_length _ ws)

end Sys2Proof.Machine
end

section
/-! The CRC as an algebra (40_crc.md R103 to R106): a bit-step is linear over exclusive-or and loses nothing, so the
CRC is affine in its two bytes and a bijection in each. -/

namespace Sys2Proof.Machine

/-! ### Bit-steps -/

theorem crcShift_eq_xor_ite (c : Byte) : crcShift c = c <<< 1 ^^^ if c.getLsbD 7 then crcPoly else 0 := by
  unfold crcShift
  split
  · rfl
  · exact BitVec.xor_zero.symm

theorem crcShift_xor (a b : Byte) : crcShift (a ^^^ b) = crcShift a ^^^ crcShift b := by
  have feedback (p q : Bool) : (if (p ^^ q) then crcPoly else 0) =
      (if p then crcPoly else 0) ^^^ if q then crcPoly else 0 := by
    cases p <;> cases q <;> rfl
  simp only [crcShift_eq_xor_ite, BitVec.shiftLeft_xor_distrib, BitVec.getLsbD_xor, feedback]
  ac_rfl

theorem eq_zero_of_crcShift_eq_zero : ∀ c : Byte, crcShift c = 0 → c = 0 := by decide

theorem crcShift_injective : Function.Injective crcShift := by
  intro a b h
  have hdiff : crcShift (a ^^^ b) = 0 := by rw [crcShift_xor, h]; exact BitVec.xor_self
  exact BitVec.xor_eq_zero_iff.1 (eq_zero_of_crcShift_eq_zero _ hdiff)

theorem crcShifts_xor (k : Nat) (a b : Byte) : crcShifts k (a ^^^ b) = crcShifts k a ^^^ crcShifts k b := by
  induction k generalizing a b with
  | zero => rfl
  | succ k ih => simp only [crcShifts, crcShift_xor, ih]

theorem crcShifts_injective (k : Nat) : Function.Injective (crcShifts k) := by
  induction k with
  | zero => exact Function.injective_id
  | succ k ih => exact ih.comp crcShift_injective

/-! ### Bytes -/

theorem crcByte_xor (c c' b b' : Byte) : crcByte (c ^^^ c') (b ^^^ b') = crcByte c b ^^^ crcByte c' b' := by
  rw [crcByte, crcByte, crcByte, ← crcShifts_xor]
  congr 1
  ac_rfl

theorem crcByte_bijective_byte (c : Byte) : Function.Bijective fun b => crcByte c b :=
  Finite.injective_iff_bijective.1 fun _ _ h => (BitVec.xor_right_inj c).1 (crcShifts_injective 8 h)

theorem crcByte_bijective_register (b : Byte) : Function.Bijective fun c => crcByte c b :=
  Finite.injective_iff_bijective.1 fun _ _ h => (BitVec.xor_left_inj b).1 (crcShifts_injective 8 h)

theorem crc8_bijective_second (b0 : Byte) : Function.Bijective fun b1 => crc8 b0 b1 :=
  crcByte_bijective_byte _

theorem crc8_bijective_first (b1 : Byte) : Function.Bijective fun b0 => crc8 b0 b1 :=
  (crcByte_bijective_register b1).comp (crcByte_bijective_byte crcInit)

/-- Flipped data bits change the CRC by an amount that does not depend on the data (40 R105). -/
theorem crc8_xor_flip (b0 b1 e0 e1 : Byte) :
    crc8 (b0 ^^^ e0) (b1 ^^^ e1) = crc8 b0 b1 ^^^ crcByte (crcByte 0#8 e0) e1 := by
  rw [crc8, crc8, ← crcByte_xor, ← crcByte_xor, BitVec.xor_zero]

/-- The initial value enters a sum of two CRCs twice and cancels, so a third brings it back (40 R106). -/
theorem crc8_xor (a0 a1 b0 b1 : Byte) :
    crc8 (a0 ^^^ b0) (a1 ^^^ b1) = crc8 a0 a1 ^^^ crc8 b0 b1 ^^^ crc8 0#8 0#8 := by
  simp only [crc8, ← crcByte_xor, BitVec.xor_self, BitVec.zero_xor, BitVec.xor_zero]

/-! ### The known vector and the table (40 R103, R104) -/

/-- Settles O7: the values are computed by the bit-steps. -/
theorem crcKnownVector : Obligations.CrcKnownVector := by
  unfold Obligations.CrcKnownVector
  decide +kernel

theorem crcShifts_eight_eq_crcTable : ∀ x : Byte, crcShifts 8 x = crcTable x := by decide +kernel

/-- Settles O8: each of the two bytes costs one run of the 8-shift loop, which the table lists. -/
theorem crcTableForm : Obligations.CrcTableForm := by
  refine ⟨crcShifts_eight_eq_crcTable, fun b0 b1 => ?_⟩
  rw [crc8, crcByte, crcByte, crcShifts_eight_eq_crcTable, crcShifts_eight_eq_crcTable, crcInit]

/-! ### The words of each CRC value (40 R106) -/

theorem length_filter_range (n : Nat) (p : Nat → Prop) [DecidablePred p] :
    ((List.range n).filter fun i => p i).length = {i ∈ Finset.range n | p i}.card := rfl

/-- For each first byte exactly one second byte gives the CRC `v`, so `v` has as many words as there are bytes. -/
theorem crc8_words_length (v : Byte) : ((List.range 65536).filter fun n =>
    crc8 (hiByte (BitVec.ofNat 16 n)) (loByte (BitVec.ofNat 16 n)) = v).length = 256 := by
  choose second hsecond using fun b0 => (crc8_bijective_second b0).surjective v
  rw [length_filter_range]
  refine (Finset.card_bij' (t := Finset.univ) (fun n _ => hiByte (BitVec.ofNat 16 n))
    (fun b0 _ => (b0 ++ second b0).toNat) (fun _ _ => Finset.mem_univ _) (fun b0 _ => ?mem)
    (fun n hn => ?left) (fun b0 _ => ?right)).trans ?card
  case mem =>
    rw [Finset.mem_filter, Finset.mem_range, BitVec.ofNat_toNat, BitVec.setWidth_eq, hiByte_append, loByte_append]
    exact ⟨(b0 ++ second b0).isLt, hsecond b0⟩
  case left =>
    rw [Finset.mem_filter, Finset.mem_range] at hn
    obtain ⟨hlt, hv⟩ := hn
    have hlo : second (hiByte (BitVec.ofNat 16 n)) = loByte (BitVec.ofNat 16 n) :=
      (crc8_bijective_second _).injective ((hsecond _).trans hv.symm)
    rw [hlo, hiByte_append_loByte, BitVec.toNat_ofNat, Nat.mod_eq_of_lt hlt]
  case right => rw [BitVec.ofNat_toNat, BitVec.setWidth_eq, hiByte_append]
  case card => rw [Finset.card_univ, ← FinEnum.card_eq_fintypeCard]; rfl

theorem hiByte_xor (u v : Word) : hiByte (u ^^^ v) = hiByte u ^^^ hiByte v := BitVec.extractLsb'_xor

theorem loByte_xor (u v : Word) : loByte (u ^^^ v) = loByte u ^^^ loByte v := BitVec.extractLsb'_xor

/-- Settles O10: the bit-steps are linear and injective. -/
theorem crcAlgebra : Obligations.CrcAlgebra := by
  refine ⟨crc8_bijective_second, crc8_bijective_first, crc8_words_length, fun u v => ?_, by decide +kernel⟩
  rw [hiByte_xor, loByte_xor]
  exact crc8_xor _ _ _ _

end Sys2Proof.Machine
end

section
/-! Error detection (40_crc.md R105). Whether a flip of bits passes the CRC test depends on the flip only, through its
syndrome; the syndrome is linear, so that of a flip is the exclusive-or of those of its bits. -/

namespace Sys2Proof.Machine

/-! ### The bytes of a group -/

section
variable (b0 b1 c : Byte)

@[simp] theorem group24_extract_first : (group24 b0 b1 c).extractLsb' 16 8 = b0 :=
  (BitVec.extractLsb'_append_eq_of_le (by decide)).trans BitVec.extractLsb'_append_eq_left

@[simp] theorem group24_extract_second : (group24 b0 b1 c).extractLsb' 8 8 = b1 :=
  (BitVec.extractLsb'_append_eq_of_le (by decide)).trans BitVec.extractLsb'_append_eq_right

@[simp] theorem group24_extract_crc : (group24 b0 b1 c).extractLsb' 0 8 = c := BitVec.extractLsb'_append_eq_right

end

theorem groupOk_iff (d0 d1 c : Byte) : groupOk d0 d1 c = true ↔ c = crc8 d0 d1 := by
  rw [groupOk, beq_iff_eq, eq_comm]

theorem groupOk_eq_false_iff (d0 d1 c : Byte) : groupOk d0 d1 c = false ↔ c ≠ crc8 d0 d1 := by
  rw [← Bool.not_eq_true, groupOk_iff]

/-! ### Syndromes -/

/-- What the flip `e` of a group changes in its CRC, exclusive-or what it flips in its CRC byte. -/
def syndrome (e : BitVec 24) : Byte :=
  crcByte (crcByte 0#8 (e.extractLsb' 16 8)) (e.extractLsb' 8 8) ^^^ e.extractLsb' 0 8

/-- A flip of a valid group goes undetected exactly when its syndrome is 0. -/
theorem groupOk_flip (b0 b1 : Byte) (e : BitVec 24) :
    let g := group24 b0 b1 (crc8 b0 b1) ^^^ e
    groupOk (g.extractLsb' 16 8) (g.extractLsb' 8 8) (g.extractLsb' 0 8) = true ↔ syndrome e = 0 := by
  intro g
  simp only [g, BitVec.extractLsb'_xor, group24_extract_first, group24_extract_second, group24_extract_crc]
  rw [groupOk_iff, crc8_xor_flip, BitVec.xor_right_inj, eq_comm]
  exact BitVec.xor_eq_zero_iff.symm

theorem survives_iff (w : Word) (e : BitVec 24) : survives w e = true ↔ syndrome e = 0 := groupOk_flip _ _ e

theorem syndrome_xor (e f : BitVec 24) : syndrome (e ^^^ f) = syndrome e ^^^ syndrome f := by
  have hzero (a b : Byte) : crcByte 0#8 (a ^^^ b) = crcByte 0#8 a ^^^ crcByte 0#8 b := crcByte_xor 0#8 0#8 a b
  simp only [syndrome, BitVec.extractLsb'_xor, hzero, crcByte_xor]
  ac_rfl

theorem syndrome_zero : syndrome 0#24 = 0#8 := by decide +kernel

theorem syndrome_flipMask_cons (i : Nat) (is : List Nat) :
    syndrome (flipMask (i :: is)) = syndrome (flipMask is) ^^^ syndrome (1#24 <<< i) := syndrome_xor _ _

/-! ### Patterns -/

/-- The model's enumeration of `k` bits is that of the library in another order. -/
theorem choices_perm_sublistsLen (k : Nat) (xs : List Nat) : (choices k xs).Perm (xs.sublistsLen k) := by
  fun_induction choices k xs with
  | case1 xs => rw [List.sublistsLen_zero]
  | case2 k => rfl
  | case3 k x xs ihWith ihWithout =>
    rw [List.sublistsLen_succ_cons]
    exact ((ihWith.map _).append ihWithout).trans List.perm_append_comm

theorem choices_length (k : Nat) (xs : List Nat) : (choices k xs).length = xs.length.choose k :=
  (choices_perm_sublistsLen k xs).length_eq.trans (List.length_sublistsLen k xs)

theorem mem_choices_iff {k : Nat} {is xs : List Nat} : is ∈ choices k xs ↔ is.Sublist xs ∧ is.length = k :=
  (choices_perm_sublistsLen k xs).mem_iff.trans List.mem_sublistsLen

/-- The number of ways to choose `k` elements of a list with the exclusive-or `v`. -/
def cancellations : Nat → List Byte → Byte → Nat
  | 0, _, v => if 0 = v then 1 else 0
  | _ + 1, [], _ => 0
  | k + 1, c :: cs, v => cancellations k cs (v ^^^ c) + cancellations (k + 1) cs v

/-- The patterns of `k` bits with syndrome `v` are counted on the syndromes of the single bits. -/
theorem countP_choices_syndrome (k : Nat) (xs : List Nat) (v : Byte) :
    (choices k xs).countP (fun is => syndrome (flipMask is) = v) =
      cancellations k (xs.map fun i => syndrome (1#24 <<< i)) v := by
  fun_induction choices k xs generalizing v with
  | case1 xs => simp [cancellations, flipMask, syndrome_zero]
  | case2 k => rfl
  | case3 k x xs ihWith ihWithout =>
    have hx (is : List Nat) : syndrome (flipMask (x :: is)) = v ↔
        syndrome (flipMask is) = v ^^^ syndrome (1#24 <<< x) := by
      rw [syndrome_flipMask_cons, ← BitVec.xor_left_inj (syndrome (1#24 <<< x)), BitVec.xor_assoc, BitVec.xor_self,
        BitVec.xor_zero]
    rw [List.countP_append, List.countP_map, List.map_cons, cancellations, ← ihWith, ← ihWithout]
    simp only [Function.comp_def, hx]

/-- The syndromes of the 24 single flips, bit 0 first. -/
def bitSyndromes : List Byte :=
  [0x01, 0x02, 0x04, 0x08, 0x10, 0x20, 0x40, 0x80, 0x31, 0x62, 0xC4, 0xB9, 0x43, 0x86, 0x3D, 0x7A, 0xF4, 0xD9,
    0x83, 0x37, 0x6E, 0xDC, 0x89, 0x23]

theorem map_syndrome_range : (List.range 24).map (fun i => syndrome (1#24 <<< i)) = bitSyndromes := by
  decide +kernel

theorem cancellations_bitSyndromes_of_le_three :
    ∀ k, 1 ≤ k → k ≤ 3 → cancellations k bitSyndromes 0 = 0
  | 1, _, _ | 2, _, _ | 3, _, _ => by decide +kernel

theorem cancellations_bitSyndromes_four : cancellations 4 bitSyndromes 0 = 80 := by decide +kernel

theorem countP_survives (w : Word) (k : Nat) :
    (choices k (List.range 24)).countP (fun is => survives w (flipMask is)) = cancellations k bitSyndromes 0 := by
  rw [← map_syndrome_range, ← countP_choices_syndrome]
  exact List.countP_congr fun is _ => by rw [survives_iff, decide_eq_true_iff]

/-- A flip of 1, 2 or 3 bits has a syndrome other than 0 (40 R105). -/
theorem survives_flipMask_of_le_three (w : Word) {k : Nat} (hlow : 1 ≤ k) (hhigh : k ≤ 3) {is : List Nat}
    (his : is ∈ choices k (List.range 24)) : survives w (flipMask is) = false := by
  have hnone := (countP_survives w k).trans (cancellations_bitSyndromes_of_le_three k hlow hhigh)
  exact Bool.eq_false_of_not_eq_true (List.countP_eq_zero.1 hnone is his)

/-- Settles O9: whether a flip survives is a matter of its syndrome, and the syndromes of single bits are counted. -/
theorem crcDetectsThreeBitErrors : Obligations.CrcDetectsThreeBitErrors := by
  refine ⟨fun w k hlow hhigh is his => survives_flipMask_of_le_three w hlow hhigh his, ?_, fun w => ?_,
    fun v w e => ?_⟩
  · rw [choices_length, List.length_range]
    rfl
  · rw [← List.countP_eq_length_filter, countP_survives, cancellations_bitSyndromes_four]
  · rw [Bool.eq_iff_iff, survives_iff, survives_iff]

end Sys2Proof.Machine
end

section
/-! The commands CRC8 and CHECK, and the test that CHECK shares with the reads (40_crc.md R107 to R109). -/

namespace Sys2Proof.Machine

/-! ### CRC8 and CHECK as CMD words (40 R107, R108) -/

theorem hiByte_cmdData (c : CmdWord) : hiByte (cmdData c) = c.extractLsb' 8 8 :=
  BitVec.extractLsb'_extractLsb'_of_le (by decide)

theorem loByte_cmdData (c : CmdWord) : loByte (cmdData c) = c.extractLsb' 0 8 :=
  BitVec.extractLsb'_extractLsb'_of_le (by decide)

theorem runCommand_of_reserved {c : CmdWord} (h : ∃ e, decode c = .error e) (s : State) :
    runCommand c s = .next { s with status := 4 } := by
  obtain ⟨e, he⟩ := h
  exact runCommand_of_error he s

/-- Settles O11: the command is CRCOUT and STATUS written, and the decoder rejects a field that must be 0. -/
theorem crc8Command : Obligations.Crc8Command := by
  refine ⟨fun b0 b1 s => ⟨_, rfl, rfl⟩, fun c s hop => ⟨fun hbad => ?_, fun ⟨hrsv, hcnt⟩ => ?_⟩, by decide +kernel⟩
  · exact runCommand_of_reserved (decode_error_of_reserved
      (hbad.elim (fun hrsv => .inr (.inr (.inl hrsv))) fun hcnt => .inr (.inr (.inr (.inl ⟨hop, hcnt⟩))))) s
  · have hd := (decode_of_op_crc8 hrsv hop).trans (if_neg (not_not_intro hcnt))
    rw [runCommand_of_ok hd, hiByte_cmdData, loByte_cmdData]

theorem exec_check (b0 b1 c : Byte) (s : State) : exec (.check b0 b1 c) s =
    .next (raise (if c = crc8 b0 b1 then .ok else .protocol) (crcToOut b0 b1 s)) := by
  simp only [exec, execCheck_eq, groupOk_iff]

/-- CHECK reports OK or Protocol, whatever the state (40 R108). -/
theorem exec_check_status {b0 b1 c : Byte} {s t : State} (h : exec (.check b0 b1 c) s = .next t) :
    t.status = if c = crc8 b0 b1 then 0 else 8 := by
  cases (exec_check b0 b1 c s).symm.trans h
  split_ifs <;> rfl

theorem exec_check_status_iff {b0 b1 c : Byte} {s t : State} (h : exec (.check b0 b1 c) s = .next t) :
    (t.status = 0 ↔ c = crc8 b0 b1) ∧ (t.status = 8 ↔ c ≠ crc8 b0 b1) := by
  rw [exec_check_status h]
  split_ifs with hc <;> simp [hc]

/-- One flipped bit is a flip of one bit: its pattern is among those that R105 counts. -/
theorem groupOk_flip_one (b0 b1 : Byte) {k : Nat} (hk : k < 24) :
    let g := group24 b0 b1 (crc8 b0 b1) ^^^ (1#24 <<< k)
    groupOk (g.extractLsb' 16 8) (g.extractLsb' 8 8) (g.extractLsb' 0 8) = false := by
  have hpattern : [k] ∈ choices 1 (List.range 24) :=
    mem_choices_iff.2 ⟨List.singleton_sublist.2 (List.mem_range.2 hk), rfl⟩
  have hmask : flipMask [k] = 1#24 <<< k := BitVec.zero_xor
  have hfails := survives_flipMask_of_le_three (b0 ++ b1) (Nat.le_refl 1) (by decide) hpattern
  rwa [survives, hiByte_append, loByte_append, hmask] at hfails

/-- Settles O12: CRCOUT is written before the comparison, which only chooses STATUS. -/
theorem checkCommand : Obligations.CheckCommand := by
  refine ⟨fun b0 b1 c s => ?_, fun c s hop => ⟨fun hrsv => ?_, fun hrsv => ?_⟩, by decide +kernel, by decide +kernel,
    fun b0 b1 k hk => ?_⟩
  · refine ⟨_, exec_check b0 b1 c s, ?_⟩
    rw [← exec_check_status (exec_check b0 b1 c s)]
    rfl
  · exact runCommand_of_reserved ⟨_, decode_of_rsv_ne hrsv⟩ s
  · rw [runCommand_of_ok (decode_of_op_check hrsv hop), hiByte_cmdData, loByte_cmdData, cmdCnt]
  · intro g s t h
    obtain ⟨-, hprotocol⟩ := exec_check_status_iff h
    exact hprotocol.2 ((groupOk_eq_false_iff _ _ _).1 (groupOk_flip_one b0 b1 hk))

/-! ### The groups a read consumes (40 R109, 42 R142) -/

section
variable (mode : ReadMode) (d0 d1 x : Byte) (rest : List Byte)

theorem groupValid_cons_zero : GroupValid (d0 :: d1 :: x :: rest) 0 ↔ groupOk d0 d1 x = true :=
  (groupOk_iff d0 d1 x).symm

theorem groupValid_cons_succ (k : Nat) : GroupValid (d0 :: d1 :: x :: rest) (k + 1) ↔ GroupValid rest k := Iff.rfl

theorem isTerminator_eq_false_iff :
    isTerminator mode d0 d1 = false ↔ (mode = .zero → ¬ GroupZero (d0 :: d1 :: x :: rest) 0) := by
  simp [isTerminator, GroupZero, byteAt]

theorem consumed_zero (l : List Byte) (g : Nat) : Consumed mode l (g + 1) 0 := ⟨g.succ_pos, fun _ _ => nofun⟩

/-- A group after the first is consumed when the first does not end the read. -/
theorem consumed_cons_succ (g k : Nat) : Consumed mode (d0 :: d1 :: x :: rest) (g + 1) (k + 1) ↔
    isTerminator mode d0 d1 = false ∧ Consumed mode rest g k := by
  rw [isTerminator_eq_false_iff mode d0 d1 x rest]
  constructor
  · intro ⟨hlt, hnone⟩
    exact ⟨fun hm => hnone hm 0 k.succ_pos, Nat.lt_of_succ_lt_succ hlt,
      fun hm j hj => hnone hm (j + 1) (Nat.succ_lt_succ hj)⟩
  · intro ⟨hfirst, hlt, hnone⟩
    refine ⟨Nat.succ_lt_succ hlt, fun hm j hj => ?_⟩
    cases j with
    | zero => exact hfirst hm
    | succ j => exact hnone hm j (Nat.lt_of_succ_lt_succ hj)

/-- A loop fails at its first group or, when that does not end it, at a later one. -/
theorem runGroups_cons_ok_false_iff (c : Byte) : (runGroups mode c (d0 :: d1 :: x :: rest)).ok = false ↔
    groupOk d0 d1 x = false ∨ isTerminator mode d0 d1 = false ∧ (runGroups mode (crc8 d0 d1) rest).ok = false := by
  cases hg : groupOk d0 d1 x with
  | false => simp [runGroups_bad mode c d0 d1 x rest hg]
  | true =>
    cases ht : isTerminator mode d0 d1 with
    | true => simp [runGroups_terminator mode c d0 d1 x rest hg ht]
    | false => simp [runGroups_next mode c d0 d1 x rest hg ht]

theorem exists_invalid_cons_iff (g : Nat) :
    (∃ k, Consumed mode (d0 :: d1 :: x :: rest) (g + 1) k ∧ ¬ GroupValid (d0 :: d1 :: x :: rest) k) ↔
      groupOk d0 d1 x = false ∨
        isTerminator mode d0 d1 = false ∧ ∃ k, Consumed mode rest g k ∧ ¬ GroupValid rest k := by
  rw [← Nat.or_exists_add_one]
  simp only [consumed_zero, true_and, groupValid_cons_zero, groupValid_cons_succ,
    consumed_cons_succ, Bool.not_eq_true, and_assoc, exists_and_left]

end

/-- The loop fails exactly when a group it consumes is not valid (42 R142). -/
theorem runGroups_ok_false_iff (mode : ReadMode) (c : Byte) {l : List Byte} {g : Nat} (hl : l.length = 3 * g) :
    (runGroups mode c l).ok = false ↔ ∃ k, Consumed mode l g k ∧ ¬ GroupValid l k := by
  induction g generalizing c l with
  | zero =>
    cases List.eq_nil_of_length_eq_zero hl
    exact iff_of_false nofun fun ⟨k, ⟨hk, _⟩, _⟩ => k.not_lt_zero hk
  | succ g ih =>
    match l, hl with
    | d0 :: d1 :: x :: rest, hl =>
      rw [runGroups_cons_ok_false_iff, exists_invalid_cons_iff, ih (crc8 d0 d1) (Nat.add_right_cancel (m := 3) hl)]

/-- A read whose response has the right length reports Protocol exactly when its loop fails (60 R174). -/
theorem readDecode_status_eq_protocol_iff (mode : ReadMode) {n : Nat} {s : State} {l : List Byte} (hlow : 2 ≤ n)
    (hhigh : n ≤ s.cfg.maxRxData) (ha : readAnswer s = .bytes l) (hl : l.length = requestLength n) :
    (readDecode mode n s).status = 8 ↔ (runGroups mode s.crc l).ok = false := by
  rcases readDecode_outcomes mode n s with
    ⟨hr, -⟩ | ⟨-, e, he, -⟩ | ⟨-, l', ha', hends⟩
  · exact absurd ⟨hlow, hhigh⟩ hr
  · cases he.symm.trans ha
  · cases ha'.symm.trans ha
    rcases hends with ⟨hne, -⟩ | ⟨-, hok, h⟩ | ⟨-, hok, -, -, h⟩ | ⟨-, hok, -, h⟩
    · exact absurd hl hne
    · exact iff_of_true (by rw [h]; rfl) hok
    · exact iff_of_false (by rw [h]; exact (by decide : (1 : BitVec 4) ≠ 8)) (by simp [hok])
    · exact iff_of_false (by rw [h]; exact (by decide : (0 : BitVec 4) ≠ 8)) (by simp [hok])

/-- Settles O13: both CHECK and the loop of a read report Protocol for a group that is not valid. -/
theorem checkIsTheDecodersTest : Obligations.CheckIsTheDecodersTest := by
  refine ⟨fun b0 b1 c s => ⟨_, exec_check b0 b1 c s, exec_check_status_iff (exec_check b0 b1 c s)⟩,
    fun mode n s l hlow hhigh ha hl => ⟨_, exec_readInstr mode n s, ?_⟩⟩
  rw [readDecode_status_eq_protocol_iff mode hlow hhigh ha hl, runGroups_ok_false_iff mode s.crc hl]
  refine exists_congr fun k => ⟨fun ⟨hk, hinvalid⟩ => ?_, fun ⟨t, hk, ht, hstatus⟩ => ?_⟩
  · have ht := exec_check (byteAt l (3 * k)) (byteAt l (3 * k + 1)) (byteAt l (3 * k + 2)) s
    exact ⟨_, hk, ht, (exec_check_status_iff ht).2.2 hinvalid⟩
  · exact ⟨hk, (exec_check_status_iff ht).2.1 hstatus⟩

end Sys2Proof.Machine
end

section
/-! The frame encoder (41_frame_encode.md R125, R126): the layout of a frame, and the groups of a frame as the
decoder reads them. -/

namespace Sys2Proof.Machine

/-! ### The layout of a frame (41 R126) -/

/-- Settles O14: the groups stand one after another, 3 bytes each, after the opcode. -/
theorem frameLayout : Obligations.FrameLayout := by
  refine fun op ws => ⟨frame_length op ws, rfl, rfl, fun k w hw => ?_, fun c hc hfit => ?_⟩
  · have hlo := frame_getElem?_group op hw (j := 1) (by decide)
    have hcrc := frame_getElem?_group op hw (j := 2) (by decide)
    rw [Nat.add_right_comm] at hlo hcrc
    exact ⟨frame_getElem?_group op hw (j := 0) (by decide), hlo, hcrc⟩
  · obtain ⟨-, hmax, -, -⟩ := hc
    rw [frame_length]
    omega

/-! ### The groups of a frame -/

/-- The data bytes of the words, in order (41 R125). -/
def wordBytes (ws : List Word) : List Byte := ws.flatMap fun w => [hiByte w, loByte w]

theorem wordBytes_length (ws : List Word) : (wordBytes ws).length = 2 * ws.length := by
  simp [wordBytes, List.length_flatMap, Nat.mul_comm]

theorem frame_drop_two (op : Word) (ws : List Word) : (frame op ws).drop 2 = ws.flatMap wordGroup := rfl

theorem wordGroups_length (ws : List Word) : (ws.flatMap wordGroup).length = requestLength (2 * ws.length) := by
  rw [← frame_drop_two 0, List.length_drop, frame_length, Nat.add_sub_cancel_left, requestLength,
    Nat.mul_div_cancel_left _ Nat.two_pos]

theorem wordGroups_cons (w : Word) (ws : List Word) : (w :: ws).flatMap wordGroup =
    hiByte w :: loByte w :: crc8 (hiByte w) (loByte w) :: ws.flatMap wordGroup := rfl

theorem groupValid_wordGroups {ws : List Word} {k : Nat} (hk : k < ws.length) :
    GroupValid (ws.flatMap wordGroup) k := by
  induction ws generalizing k with
  | nil => cases hk
  | cons w ws ih =>
    rw [wordGroups_cons]
    cases k with
    | zero => rfl
    | succ k => exact (groupValid_cons_succ _ _ _ _ k).2 (ih (Nat.lt_of_succ_lt_succ hk))

/-- A fixed-count read consumes every group of a frame, keeps its two data bytes, and ends with the engine as the
encoder leaves it (41 R120, 42 R142). -/
theorem runGroups_wordGroups (c : Byte) (ws : List Word) : runGroups .fixed c (ws.flatMap wordGroup) =
    { ok := true, out := wordBytes ws, crc := crcOfWords ws c, left := [] } := by
  induction ws generalizing c with
  | nil => rfl
  | cons w ws ih =>
    have hvalid : groupOk (hiByte w) (loByte w) (crc8 (hiByte w) (loByte w)) = true := (groupOk_iff _ _ _).2 rfl
    rw [wordGroups_cons, runGroups_next _ _ _ _ _ _ hvalid rfl, ih]
    rfl

/-! ### The round trip (41 R125) -/

/-- A read completes when its response has the length asked for, its loop succeeds, and in fixed-count mode the
bytes kept are N (42 R142, R144). -/
theorem readDecode_completes {mode : ReadMode} {n : Nat} {s : State} {l : List Byte}
    (hrange : 2 ≤ n ∧ n ≤ s.cfg.maxRxData) (ha : readAnswer s = .bytes l) (hl : l.length = requestLength n)
    (hok : (runGroups mode s.crc l).ok = true) (hcount : mode = .fixed → (runGroups mode s.crc l).out.length = n) :
    readDecode mode n s = completeRead (runGroups mode s.crc l).out
      (consumeGroups mode (loadRxq l (transportRead (requestLength n) s))) := by
  rcases readDecode_outcomes mode n s with
    ⟨hr, -⟩ | ⟨-, e, he, -⟩ | ⟨-, l', ha', hends⟩
  · exact absurd hrange hr
  · cases he.symm.trans ha
  · cases ha'.symm.trans ha
    rcases hends with ⟨hne, -⟩ | ⟨-, hbad, -⟩ | ⟨-, -, hm, hne, -⟩ | ⟨-, -, -, h⟩
    · exact absurd hl hne
    · cases hok.symm.trans hbad
    · exact absurd (hcount hm) hne
    · exact h

/-- READF of 2·n bytes, answered with the groups of n words, keeps the words' bytes (41 R125). -/
theorem readDecode_wordGroups {ws : List Word} {s : State} (hpos : 1 ≤ ws.length)
    (hfit : 2 * ws.length ≤ s.cfg.maxRxData) (ha : readAnswer s = .bytes (ws.flatMap wordGroup)) :
    readDecode .fixed (2 * ws.length) s = completeRead (wordBytes ws)
      (consumeGroups .fixed (loadRxq (ws.flatMap wordGroup) (transportRead (requestLength (2 * ws.length)) s))) := by
  have hrun := runGroups_wordGroups s.crc ws
  have hread := readDecode_completes (mode := .fixed) ⟨by omega, hfit⟩ ha (wordGroups_length ws) (by rw [hrun])
    fun _ => by rw [hrun, wordBytes_length]
  rwa [hrun] at hread

/-- Settles O19: the loop of READF takes a frame's groups apart as the encoder put them together. -/
theorem encoderRoundTrip : Obligations.EncoderRoundTrip := by
  refine ⟨fun w s => ?_, fun op ws k hk => groupValid_wordGroups hk, fun op ws s hpos hfit hbyte ha => ?_⟩
  · have ht := exec_check (hiByte w) (loByte w) (crc8 (hiByte w) (loByte w)) s
    exact ⟨_, ht, (exec_check_status_iff ht).1.2 rfl⟩
  · have hn : (BitVec.ofNat 8 (2 * ws.length)).toNat = 2 * ws.length := by
      rw [BitVec.toNat_ofNat, Nat.mod_eq_of_lt (Nat.lt_succ_of_le hbyte)]
    rw [frame_drop_two] at ha
    refine ⟨_, exec_readInstr .fixed _ s, ?_⟩
    rw [hn, readDecode_wordGroups hpos hfit ha, completeRead_rxlen, wordBytes_length]
    refine ⟨rfl, hn, ?_⟩
    rw [completeRead_rxd, ← wordBytes_length, overlay_take, wordBytes]

end Sys2Proof.Machine
end

section
/-! The command WRITE (41_frame_encode.md R121): what it answers in each case of its checks. -/

namespace Sys2Proof.Machine

theorem exec_write_sentinel (n : BitVec 8) (s : State) :
    exec (.write n 0x0000) s = .next (refuseFrame .unknownCommand s) := by
  rw [exec, execWrite, if_pos rfl]

section
variable {n : BitVec 8} {op : Word} {s : State} (h0 : op ≠ 0x0000)
include h0

theorem exec_write_tooManyWords (hn : s.cfg.maxTxWords < n.toNat) :
    exec (.write n op) s = .next (refuseFrame .invalidParameter s) := by
  rw [exec, execWrite, if_neg h0, if_pos hn]

theorem exec_write_loaded (hn : n.toNat ≤ s.cfg.maxTxWords) (hall : ∀ k < n.toNat, txwWritten s k = true) :
    exec (.write n op) s = .next (sendFrame op (txWords s n.toNat) s) := by
  rw [exec, execWrite, if_neg h0, if_neg (Nat.not_lt.2 hn), (firstUnwritten_none_iff s _).2 hall]

theorem exec_write_unwritten (hn : n.toNat ≤ s.cfg.maxTxWords) (hsome : ∃ k < n.toNat, txwWritten s k = false) :
    ∃ k < n.toNat, txwWritten s k = false ∧ exec (.write n op) s = .fault (.unwrittenTxw k) := by
  rcases execWrite_cases n op s with ⟨hop, -⟩ | ⟨-, hmany, -⟩ | ⟨-, -, hfault⟩ | ⟨-, -, hall, -⟩
  · exact absurd hop h0
  · exact absurd hn (Nat.not_le.2 hmany)
  · exact hfault
  · obtain ⟨k, hk, hunwritten⟩ := hsome
    cases hunwritten.symm.trans (hall k hk)

end

/-- Settles O17: each case of the checks has one answer, a refusal, a fault, or the frame sent. -/
theorem writeCommand : Obligations.WriteCommand := by
  refine ⟨fun c s hop => ⟨fun hrsv => ?_, fun hrsv => ?_⟩, fun n op s => ⟨fun h0 => ?_, fun h0 hn => ?_,
    fun h0 hn hall => ?_, exec_write_unwritten, fun t ht => ?_⟩⟩
  · exact runCommand_of_reserved ⟨_, decode_of_rsv_ne hrsv⟩ s
  · exact runCommand_of_ok (decode_of_op_write hrsv hop) s
  · subst h0
    exact ⟨_, exec_write_sentinel n s, rfl, rfl, rfl⟩
  · exact ⟨_, exec_write_tooManyWords h0 hn, rfl, rfl, rfl⟩
  · have hlen : (frame op (txWords s n.toNat)).length = 2 + 3 * n.toNat := by rw [frame_length, txWords_length]
    have hstatus (a : WriteAnswer) (ha : writeAnswer s = a) :
        (sendFrame op (txWords s n.toNat) s).status = statusCode (writeAnswerKind a) := by
      rw [sendFrame_status, ha]
    refine ⟨_, exec_write_loaded h0 hn hall, ?_, ?_, rfl, hstatus _, hstatus _, hstatus _, fun j hj => ?_⟩
    · rw [sendFrame_txlen, hlen]
    · rw [sendFrame_txf, ← hlen, overlay_take]
    · exact overlay_getElem?_ge _ _ (hlen.trans_le hj)
  · rcases exec_write_next ht with ⟨-, rfl⟩ | ⟨-, -, -, rfl⟩ <;> simp

end Sys2Proof.Machine
end

section
/-! The loop of a read (42_frame_decode.md R142) by the groups it consumes: which bytes it keeps, how many, and what
it leaves in the queue. -/

namespace Sys2Proof.Machine

/-! ### The bytes kept (42 R150) -/

/-- The loop keeps the two data bytes of each group in wire order. -/
theorem runGroups_out_getElem? (mode : ReadMode) (c : Byte) (l : List Byte) {k : Nat}
    (hk : 2 * k < (runGroups mode c l).out.length) :
    (runGroups mode c l).out[2 * k]? = some (byteAt l (3 * k)) ∧
      (runGroups mode c l).out[2 * k + 1]? = some (byteAt l (3 * k + 1)) := by
  revert k
  fun_induction runGroups mode c l with
  | case1 => exact fun hk => absurd hk (Nat.not_lt_zero _)
  | case2 =>
    intro k hk
    have hzero : k = 0 := by simp only [List.length_cons, List.length_nil] at hk; omega
    subst hzero
    exact ⟨rfl, rfl⟩
  | case3 c d0 d1 g rest hg ht r =>
    rename_i ih
    intro k hk
    cases k with
    | zero => exact ⟨rfl, rfl⟩
    | succ k => exact ih (Nat.lt_of_add_lt_add_right (n := 2) hk)
  | case4 => exact fun hk => absurd hk (Nat.not_lt_zero _)

/-- The bytes a read has kept, in RXD. -/
theorem overlay_runGroups_getElem? (mode : ReadMode) (c : Byte) (l old : List Byte) {k : Nat}
    (hk : 2 * k < (runGroups mode c l).out.length) :
    (overlay (runGroups mode c l).out old)[2 * k]? = some (byteAt l (3 * k)) ∧
      (overlay (runGroups mode c l).out old)[2 * k + 1]? = some (byteAt l (3 * k + 1)) := by
  obtain ⟨heven, -⟩ := runGroups_out_length mode c l
  rw [overlay_getElem?_lt _ _ hk, overlay_getElem?_lt _ _ (by omega)]
  exact runGroups_out_getElem? mode c l hk

/-- A loop that succeeds keeps the bytes of exactly the groups it consumes. -/
theorem lt_runGroups_out_length_iff (mode : ReadMode) (c : Byte) {l : List Byte} {g : Nat} (hl : l.length = 3 * g)
    (hok : (runGroups mode c l).ok = true) (k : Nat) :
    2 * k < (runGroups mode c l).out.length ↔ Consumed mode l g k := by
  induction g generalizing c l k with
  | zero =>
    cases List.eq_nil_of_length_eq_zero hl
    exact iff_of_false (Nat.not_lt_zero _) fun ⟨hk, _⟩ => k.not_lt_zero hk
  | succ g ih =>
    match l, hl with
    | d0 :: d1 :: x :: rest, hl =>
      cases hg : groupOk d0 d1 x with
      | false => simp [runGroups_bad mode c d0 d1 x rest hg] at hok
      | true =>
        cases ht : isTerminator mode d0 d1 with
        | true =>
          rw [runGroups_terminator mode c d0 d1 x rest hg ht]
          cases k with
          | zero => exact iff_of_true Nat.two_pos (consumed_zero mode _ g)
          | succ k =>
            refine iff_of_false ?_ fun hk => by simp [consumed_cons_succ, ht] at hk
            simp only [List.length_cons, List.length_nil]
            omega
        | false =>
          rw [runGroups_next mode c d0 d1 x rest hg ht] at hok ⊢
          cases k with
          | zero => exact iff_of_true (Nat.succ_pos _) (consumed_zero mode _ g)
          | succ k =>
            rw [consumed_cons_succ, ← ih (crc8 d0 d1) (Nat.add_right_cancel (m := 3) hl) hok]
            simp [ht, Nat.mul_succ]

/-- The number of bytes kept, by the number of groups consumed. -/
theorem runGroups_out_length_of_consumed (mode : ReadMode) (c : Byte) {l : List Byte} {g m : Nat}
    (hl : l.length = 3 * g) (hok : (runGroups mode c l).ok = true) (hm : ∀ k, Consumed mode l g k ↔ k < m) :
    (runGroups mode c l).out.length = 2 * m := by
  obtain ⟨heven, -⟩ := runGroups_out_length mode c l
  have hlt (k : Nat) := (lt_runGroups_out_length_iff mode c hl hok k).trans (hm k)
  have hhalf := hlt ((runGroups mode c l).out.length / 2)
  have hlast := hlt m
  omega

/-- A loop whose consumed groups are all valid succeeds. -/
theorem runGroups_ok_of_valid (mode : ReadMode) (c : Byte) {l : List Byte} {g : Nat} (hl : l.length = 3 * g)
    (hvalid : ∀ k, Consumed mode l g k → GroupValid l k) : (runGroups mode c l).ok = true := by
  refine Bool.eq_true_of_not_eq_false fun hbad => ?_
  obtain ⟨k, hk, hinvalid⟩ := (runGroups_ok_false_iff mode c hl).1 hbad
  exact hinvalid (hvalid k hk)

/-! ### Which groups are consumed (42 R140) -/

theorem consumed_fixed_iff (l : List Byte) (g k : Nat) : Consumed .fixed l g k ↔ k < g :=
  ⟨fun ⟨hk, _⟩ => hk, fun hk => ⟨hk, nofun⟩⟩

theorem consumed_iff_lt_of_no_zero {l : List Byte} {g : Nat} (hnone : ∀ k < g, ¬ GroupZero l k) (mode : ReadMode)
    (k : Nat) : Consumed mode l g k ↔ k < g :=
  ⟨fun ⟨hk, _⟩ => hk, fun hk => ⟨hk, fun _ j hj => hnone j (hj.trans hk)⟩⟩

theorem Consumed.of_le {mode : ReadMode} {l : List Byte} {g k j : Nat} (h : Consumed mode l g k) (hj : j ≤ k) :
    Consumed mode l g j :=
  ⟨hj.trans_lt h.1, fun hm i hi => h.2 hm i (hi.trans_le hj)⟩

/-- A zero-terminated read consumes the groups up to and including its terminator. -/
theorem consumed_zero_iff_le_terminator {l : List Byte} {g z : Nat} (hz : Consumed .zero l g z) (hzero : GroupZero l z)
    (k : Nat) : Consumed .zero l g k ↔ k < z + 1 := by
  refine ⟨fun ⟨_, hnone⟩ => ?_, fun hk => hz.of_le (Nat.le_of_lt_succ hk)⟩
  by_contra hgt
  exact hnone rfl z (Nat.lt_of_succ_le (Nat.not_lt.1 hgt)) hzero

/-! ### What is left in the queue (42 R147) -/

/-- A loop that succeeds leaves the bytes after the groups it consumed. -/
theorem runGroups_left (mode : ReadMode) (c : Byte) (l : List Byte) {m : Nat} (hok : (runGroups mode c l).ok = true)
    (hm : (runGroups mode c l).out.length = 2 * m) : (runGroups mode c l).left = l.drop (3 * m) := by
  revert m
  fun_induction runGroups mode c l with
  | case1 => cases hok
  | case2 c d0 d1 g rest =>
    intro m hm
    have hone : m = 1 := by simp only [List.length_cons, List.length_nil] at hm; omega
    rw [hone]
    rfl
  | case3 c d0 d1 g rest hg ht r ih =>
    intro m hm
    cases m with
    | zero => cases hm
    | succ m => exact ih hok (Nat.add_right_cancel (m := 2) hm)
  | case4 =>
    intro m hm
    have hzero : m = 0 := by simp only [List.length_nil] at hm; omega
    rw [hzero]
    rfl

/-- What follows a terminator has no part in the loop: it is left in the queue. -/
theorem runGroups_append_of_terminator (c : Byte) {p : List Byte} {z : Nat} (hp : p.length = 3 * (z + 1))
    (hzero : GroupZero p z) (rest : List Byte) :
    runGroups .zero c (p ++ rest) =
      { runGroups .zero c p with left := (runGroups .zero c p).left ++ rest } := by
  induction z generalizing c p with
  | zero =>
    match p, hp with
    | [d0, d1, x], _ =>
      have ht : isTerminator .zero d0 d1 = true := by simpa [isTerminator, GroupZero, byteAt] using hzero
      cases hg : groupOk d0 d1 x with
      | false => simp [runGroups_bad _ c d0 d1 x _ hg]
      | true => simp [runGroups_terminator _ c d0 d1 x _ hg ht]
  | succ z ih =>
    match p, hp with
    | d0 :: d1 :: x :: p, hp =>
      simp only [List.cons_append]
      cases hg : groupOk d0 d1 x with
      | false => simp [runGroups_bad _ c d0 d1 x _ hg]
      | true =>
        cases ht : isTerminator .zero d0 d1 with
        | true => simp [runGroups_terminator _ c d0 d1 x _ hg ht]
        | false =>
          simp only [runGroups_next _ c d0 d1 x _ hg ht, ih (crc8 d0 d1) (Nat.add_right_cancel (m := 3) hp) hzero]

end Sys2Proof.Machine
end

section
/-! What READF and READZ end with, case by case in the order of their checks (42_frame_decode.md R142, 60 R174). -/

namespace Sys2Proof.Machine

/-! ### N, the transport's answer and the byte count -/

section
variable {mode : ReadMode} {n : Nat} {s : State}

theorem readDecode_outOfRange (hrange : ¬ (2 ≤ n ∧ n ≤ s.cfg.maxRxData)) :
    let t := readDecode mode n s
    t.status = 4 ∧ t.rxlen = 0 ∧ t.calls = s.calls ∧ t.readAnswers = s.readAnswers := by
  rcases readDecode_cases mode n s with ⟨-, h⟩ | ⟨hr, -⟩
  · rw [h]
    exact ⟨rfl, rfl, rfl, rfl⟩
  · exact absurd hr hrange

section
variable (hrange : 2 ≤ n ∧ n ≤ s.cfg.maxRxData)
include hrange

theorem readDecode_inRange :
    readDecode mode n s = takeResponse mode n (readAnswer s) (transportRead (requestLength n) s) := by
  rcases readDecode_cases mode n s with ⟨hr, -⟩ | ⟨-, h⟩
  · exact absurd hrange hr
  · exact h

theorem readDecode_calls_inRange :
    (readDecode mode n s).calls = s.calls ++ [.read s.busaddr (requestLength n)] := by
  rw [readDecode_calls, if_pos hrange]

/-- Past the check of N a read ends with OK, Timeout or Protocol, and READF also with DataLength (60 R172). -/
theorem readDecode_status_inRange :
    let t := readDecode mode n s
    t.status = 0 ∨ (mode = .fixed ∧ t.status = 1) ∨ t.status = 7 ∨ t.status = 8 := by
  rcases readDecode_outcomes mode n s with
    ⟨hr, -⟩ | ⟨-, e, -, h⟩ | ⟨-, l, -, ⟨-, h⟩ | ⟨-, -, h⟩ | ⟨-, -, hm, -, h⟩ | ⟨-, -, -, h⟩⟩
  · exact absurd hrange hr
  · rw [h]
    cases e with
    | timeout => exact .inr (.inr (.inl rfl))
    | protocol => exact .inr (.inr (.inr rfl))
  · rw [h]; exact .inr (.inr (.inr rfl))
  · rw [h]; exact .inr (.inr (.inr rfl))
  · rw [h]; exact .inr (.inl ⟨hm, rfl⟩)
  · rw [h]; exact .inl rfl

theorem readDecode_status_ne_invalidParameter : (readDecode mode n s).status ≠ 4 := by
  rcases readDecode_status_inRange (mode := mode) hrange with h | ⟨-, h⟩ | h | h <;> rw [h] <;> decide

theorem readDecode_busError {e : BusError} (ha : readAnswer s = .error e) :
    (readDecode mode n s).status = statusCode (busErrorKind e) ∧ (readDecode mode n s).rxlen = 0 := by
  rw [readDecode_inRange hrange, ha]
  exact ⟨rfl, rfl⟩

theorem readDecode_wrongLength {l : List Byte} (ha : readAnswer s = .bytes l) (hl : l.length ≠ requestLength n) :
    (readDecode mode n s).status = 8 ∧ (readDecode mode n s).rxlen = 0 := by
  rw [readDecode_inRange hrange, ha, takeResponse, if_pos hl]
  exact ⟨rfl, rfl⟩

end

/-- DataLength is never the end of a zero-terminated read (42 R146). -/
theorem readDecode_zero_status_ne_dataLength : (readDecode .zero n s).status ≠ 1 := by
  by_cases hrange : 2 ≤ n ∧ n ≤ s.cfg.maxRxData
  · rcases readDecode_status_inRange (mode := .zero) hrange with h | ⟨hm, -⟩ | h | h
    · rw [h]; decide
    · cases hm
    · rw [h]; decide
    · rw [h]; decide
  · obtain ⟨hstatus, -⟩ := readDecode_outOfRange (mode := .zero) hrange
    rw [hstatus]
    decide

end

/-! ### The groups of a response of the right length -/

section
variable {mode : ReadMode} {n : BitVec 8} {s : State} {l : List Byte}
  (hrange : 2 ≤ n.toNat ∧ n.toNat ≤ s.cfg.maxRxData) (ha : readAnswer s = .bytes l)
  (hl : l.length = requestLength n.toNat)
include hrange ha hl

theorem readDecode_rightLength :
    readDecode mode n.toNat s = endRead mode n.toNat (runGroups mode s.crc l)
      (consumeGroups mode (loadRxq l (transportRead (requestLength n.toNat) s))) := by
  rw [readDecode_inRange hrange, ha, takeResponse, if_neg (not_not_intro hl)]
  rfl

theorem readDecode_invalidGroup (hbad : ∃ k, Consumed mode l (n.toNat / 2) k ∧ ¬ GroupValid l k) :
    (readDecode mode n.toNat s).status = 8 ∧ (readDecode mode n.toNat s).rxlen = 0 := by
  rw [readDecode_rightLength hrange ha hl, endRead, if_pos ((runGroups_ok_false_iff mode s.crc hl).2 hbad)]
  exact ⟨rfl, rfl⟩

variable (hvalid : ∀ k, Consumed mode l (n.toNat / 2) k → GroupValid l k)
include hvalid

/-- The bytes kept are an even number, so READF of an odd N never has them all (42 R144). -/
theorem readDecode_oddCount (hm : mode = .fixed) (hodd : n.toNat % 2 = 1) :
    (readDecode mode n.toNat s).status = 1 ∧ (readDecode mode n.toNat s).rxlen = 0 := by
  obtain ⟨heven, -⟩ := runGroups_out_length mode s.crc l
  have hok := runGroups_ok_of_valid mode s.crc hl hvalid
  rw [readDecode_rightLength hrange ha hl, endRead, if_neg (by simp [hok]), if_pos ⟨hm, by omega⟩]
  exact ⟨rfl, rfl⟩

/-- A read that completes returns the data bytes of the groups it consumed (42 R142, R150). -/
theorem readDecode_of_valid (hcount : mode = .fixed → n.toNat % 2 = 0) :
    let t := readDecode mode n.toNat s
    t.status = 0 ∧ t.rxlen.toNat ≤ 2 * (n.toNat / 2) ∧
    (∀ m, (∀ k, Consumed mode l (n.toNat / 2) k ↔ k < m) → t.rxlen.toNat = 2 * m) ∧
    ∀ k, Consumed mode l (n.toNat / 2) k →
      t.rxd[2 * k]? = some (byteAt l (3 * k)) ∧ t.rxd[2 * k + 1]? = some (byteAt l (3 * k + 1)) := by
  have hok := runGroups_ok_of_valid mode s.crc hl hvalid
  have hall : mode = .fixed → (runGroups mode s.crc l).out.length = n.toNat := by
    rintro rfl
    rw [runGroups_out_length_of_consumed .fixed s.crc hl hok (consumed_fixed_iff l _)]
    exact Nat.mul_div_cancel' (Nat.dvd_of_mod_eq_zero (hcount rfl))
  obtain ⟨-, hle⟩ := runGroups_out_length mode s.crc l
  rw [hl, requestLength] at hle
  intro t
  have ht : t.rxlen.toNat = (runGroups mode s.crc l).out.length := by
    simp only [t, readDecode_completes hrange ha hl hok hall, completeRead_rxlen,
      rxlen_toNat_of_response mode s.crc hl]
  simp only [ht]
  simp only [t, readDecode_completes hrange ha hl hok hall]
  refine ⟨rfl, by omega, fun m hm => runGroups_out_length_of_consumed mode s.crc hl hok hm, fun k hk => ?_⟩
  exact overlay_runGroups_getElem? mode s.crc l s.rxd ((lt_runGroups_out_length_iff mode s.crc hl hok k).2 hk)

end

/-! ### READF and READZ as CMD words (42 R144, R145) -/

section
variable {c : CmdWord} (s : State)

theorem runCommand_read_reserved (hop : cmdOp c = 4 ∨ cmdOp c = 5) (hbad : cmdRsv c ≠ 0 ∨ cmdData c ≠ 0) :
    runCommand c s = .next { s with status := 4 } :=
  runCommand_of_reserved (decode_error_of_reserved
    (hbad.elim (fun hrsv => .inr (.inr (.inl hrsv))) fun hdata => .inr (.inr (.inr (.inr ⟨hop, hdata⟩))))) s

variable (hrsv : cmdRsv c = 0) (hdata : cmdData c = 0)
include hrsv hdata

theorem runCommand_readf (hop : cmdOp c = 4) : runCommand c s = exec (.readf (cmdCnt c)) s :=
  runCommand_of_ok ((decode_of_op_readf hrsv hop).trans (if_neg (not_not_intro hdata))) s

theorem runCommand_readz (hop : cmdOp c = 5) : runCommand c s = exec (.readz (cmdCnt c)) s :=
  runCommand_of_ok ((decode_of_op_readz hrsv hop).trans (if_neg (not_not_intro hdata))) s

end

/-- Settles O20: a fixed-count read consumes every group, so N odd is the only count it can miss. -/
theorem readfCommand : Obligations.ReadfCommand := by
  refine ⟨fun c s hop => ⟨runCommand_read_reserved s (.inl hop), fun ⟨hrsv, hdata⟩ =>
    runCommand_readf s hrsv hdata hop⟩, fun n s => ⟨_, exec_readInstr .fixed n s, fun hout => ?_, fun hrange => ?_,
    ?_⟩⟩
  · obtain ⟨hstatus, hlen, hcalls, -⟩ := readDecode_outOfRange (mode := .fixed) hout
    exact ⟨hstatus, hlen, hcalls⟩
  · refine ⟨readDecode_calls_inRange hrange, fun e ha => readDecode_busError hrange ha,
      fun l ha hl => readDecode_wrongLength hrange ha hl,
      fun l ha hl => ⟨fun ⟨k, hk, hbad⟩ => ?_, fun hvalid => ⟨fun hodd => ?_, fun heven => ?_⟩⟩⟩
    · exact readDecode_invalidGroup hrange ha hl ⟨k, (consumed_fixed_iff l _ k).2 hk, hbad⟩
    · exact readDecode_oddCount hrange ha hl (fun k hk => hvalid k hk.1) rfl hodd
    · obtain ⟨hstatus, -, hlen, hrxd⟩ :=
        readDecode_of_valid (mode := .fixed) hrange ha hl (fun k hk => hvalid k hk.1) fun _ => heven
      refine ⟨hstatus, BitVec.eq_of_toNat_eq ?_, fun k hk => hrxd k ((consumed_fixed_iff l _ k).2 hk)⟩
      rw [hlen _ (consumed_fixed_iff l _)]
      exact Nat.mul_div_cancel' (Nat.dvd_of_mod_eq_zero heven)
  · obtain ⟨hrxq, -⟩ := readDecode_rxq_calls .fixed n.toNat s
    simp [hrxq]

/-- Settles O21: a zero-terminated read consumes the groups up to its terminator, or all of them if there is none. -/
theorem readzCommand : Obligations.ReadzCommand := by
  refine ⟨fun c s hop => ⟨runCommand_read_reserved s (.inr hop), fun ⟨hrsv, hdata⟩ =>
    runCommand_readz s hrsv hdata hop⟩, fun n s => ⟨_, exec_readInstr .zero n s, fun hout => ?_, fun hrange => ?_,
    readDecode_zero_status_ne_dataLength, ?_⟩⟩
  · obtain ⟨hstatus, hlen, hcalls, -⟩ := readDecode_outOfRange (mode := .zero) hout
    exact ⟨hstatus, hlen, hcalls⟩
  · refine ⟨readDecode_calls_inRange hrange, fun e ha => readDecode_busError hrange ha,
      fun l ha hl => readDecode_wrongLength hrange ha hl,
      fun l ha hl => ⟨readDecode_invalidGroup hrange ha hl, fun hvalid => ?_⟩⟩
    obtain ⟨hstatus, -, hlen, hrxd⟩ := readDecode_of_valid (mode := .zero) hrange ha hl hvalid nofun
    exact ⟨hstatus, fun z hz hzero => hlen _ (consumed_zero_iff_le_terminator hz hzero),
      fun hnone => hlen _ (consumed_iff_lt_of_no_zero hnone .zero), hrxd⟩
  · obtain ⟨hrxq, -⟩ := readDecode_rxq_calls .zero n.toNat s
    simp [hrxq]

/-- Settles O22: the check of N comes before the transport call. -/
theorem readCountRange : Obligations.ReadCountRange := by
  refine fun mode n s => ⟨_, exec_readInstr mode n s, fun hout => ?_, fun hlow hhigh => ?_⟩
  · exact readDecode_outOfRange (by omega)
  · refine ⟨readDecode_status_ne_invalidParameter ⟨hlow, hhigh⟩, ?_⟩
    rw [readDecode_calls_inRange ⟨hlow, hhigh⟩, List.length_append]
    rfl

/-! ### The queue (42 R147) and what a read leaves (42 R148, R150) -/

/-- The response replaces what the queue held before, and a read that fails before it empties the queue. -/
theorem takeResponse_loadRxq (mode : ReadMode) (n : Nat) (a : ReadAnswer) (q : List Byte) (s : State) :
    takeResponse mode n a (loadRxq q s) = takeResponse mode n a s := by
  cases a <;> rfl

theorem readDecode_loadRxq (mode : ReadMode) (n : Nat) (q : List Byte) (s : State) :
    readDecode mode n (loadRxq q s) = readDecode mode n s := by
  rw [readDecode, readDecode]
  exact if_congr Iff.rfl (takeResponse_loadRxq mode n (readAnswer s) q (transportRead (requestLength n) s)) rfl

/-- Settles O23: every way to end drains the queue, and none reads it before it is loaded. -/
theorem readsDrainTheQueue : Obligations.ReadsDrainTheQueue := by
  intro mode n s t h
  cases exec_readInstr_next h
  obtain ⟨hrxq, hcalls⟩ := readDecode_rxq_calls mode n.toNat s
  refine ⟨hrxq, ?_, fun q => ?_⟩
  · rcases hcalls with hcalls | ⟨-, hcalls⟩ <;> simp [hcalls]
  · rw [exec_readInstr]
    exact congrArg _ (readDecode_loadRxq mode n.toNat q s)

/-- Settles O24: RXLEN is 0 after a failed read, so no RXD element is readable, and the rest is the read's frame. -/
theorem failedReadLeaves : Obligations.FailedReadLeaves := by
  intro mode n s t h hstatus
  cases exec_readInstr_next h
  obtain ⟨hrxq, -⟩ := readDecode_rxq_calls mode n.toNat s
  rcases readDecode_fails_or_completes mode n.toNat s with ⟨-, -, hlen, -⟩ | ⟨hok, -⟩
  · exact ⟨hlen, hrxq, hostRead_rxd_of_rxlen_zero hlen, by simp⟩
  · exact absurd hok hstatus

/-- Settles O25: the bytes in RXD below RXLEN are those the loop kept, two of each group. -/
theorem readOutputIsTheDataBytes : Obligations.ReadOutputIsTheDataBytes := by
  intro mode n s t h hstatus
  cases exec_readInstr_next h
  rcases readDecode_fails_or_completes mode n.toNat s with
    ⟨hbad, -⟩ | ⟨-, -, l, ha, hl, -, -, hlen, hrxd⟩
  · exact absurd hstatus hbad
  · obtain ⟨heven, -⟩ := runGroups_out_length mode s.crc l
    rw [hlen, rxlen_toNat_of_response mode s.crc hl]
    refine ⟨l, ha, heven, fun k hk => ?_⟩
    obtain ⟨hfirst, hsecond⟩ := overlay_runGroups_getElem? mode s.crc l s.rxd (k := k) (by omega)
    rw [← hrxd] at hfirst hsecond
    have hword : dataWord (readDecode mode n.toNat s) k = joinBytes (byteAt l (3 * k)) (byteAt l (3 * k + 1)) := by
      rw [dataWord, hfirst, hsecond]
      rfl
    exact ⟨hfirst, hsecond, hword, by rw [signedDataWord, hword]⟩

/-! ### Corrupted responses (42 R149) -/

/-- 1 to 3 flipped bits make a valid group invalid (40 R105). -/
theorem not_groupValid_of_flip {l l' : List Byte} {g m : Nat} {is : List Nat} (hvalid : GroupValid l g) (hlow : 1 ≤ m)
    (hhigh : m ≤ 3) (his : is ∈ choices m (List.range 24))
    (hflip : group24 (byteAt l' (3 * g)) (byteAt l' (3 * g + 1)) (byteAt l' (3 * g + 2)) =
      group24 (byteAt l (3 * g)) (byteAt l (3 * g + 1)) (byteAt l (3 * g + 2)) ^^^ flipMask is) :
    ¬ GroupValid l' g := by
  have hfails := survives_flipMask_of_le_three (byteAt l (3 * g) ++ byteAt l (3 * g + 1)) hlow hhigh his
  rw [survives, hiByte_append, loByte_append, ← hvalid, ← hflip, group24_extract_first, group24_extract_second,
    group24_extract_crc] at hfails
  exact (groupOk_eq_false_iff _ _ _).1 hfails

/-- Whether a group is consumed depends on the groups before it only. -/
theorem Consumed.congr {mode : ReadMode} {l l' : List Byte} {g k : Nat} (h : Consumed mode l g k)
    (hsame : ∀ i < 3 * k, byteAt l' i = byteAt l i) : Consumed mode l' g k := by
  refine ⟨h.1, fun hm j hj hzero => h.2 hm j hj ?_⟩
  rwa [GroupZero, hsame _ (by omega), hsame _ (by omega)] at hzero

theorem take_eq_of_byteAt_eq {l l' : List Byte} {m : Nat} (hlen : l'.length = l.length)
    (hsame : ∀ i < m, byteAt l' i = byteAt l i) : l'.take m = l.take m := by
  refine List.ext_getElem (by simp [hlen]) fun i hi' hi => ?_
  rw [List.length_take] at hi hi'
  simpa [byteAt, List.getElem?_eq_getElem (show i < l.length by omega),
    List.getElem?_eq_getElem (show i < l'.length by omega)] using hsame i (by omega)

/-- Two responses that are the same up to a terminator end the loop alike, but for what they leave in the queue. -/
theorem runGroups_congr_up_to_terminator (c : Byte) {l l' : List Byte} {z : Nat} (hlen : l'.length = l.length)
    (hlong : 3 * (z + 1) ≤ l.length) (hzero : GroupZero l z)
    (hsame : ∀ i < 3 * (z + 1), byteAt l' i = byteAt l i) :
    runGroups .zero c l' = { runGroups .zero c l with left := (runGroups .zero c l').left } := by
  have htake := take_eq_of_byteAt_eq hlen hsame
  have hp : (l.take (3 * (z + 1))).length = 3 * (z + 1) := List.length_take_of_le hlong
  have hpzero : GroupZero (l.take (3 * (z + 1))) z := by
    simp only [GroupZero, byteAt] at hzero ⊢
    rwa [List.getElem?_take_of_lt (by omega), List.getElem?_take_of_lt (by omega)]
  rw [← List.take_append_drop (3 * (z + 1)) l, ← List.take_append_drop (3 * (z + 1)) l', htake,
    runGroups_append_of_terminator c hp hpzero, runGroups_append_of_terminator c hp hpzero]

/-- What the loop leaves in the queue has no part in how a read ends, since it is drained. -/
theorem endRead_left (mode : ReadMode) (n : Nat) (run : GroupRun) (left q : List Byte) (s : State) :
    endRead mode n { run with left := left } (loadRxq q s) = endRead mode n run s := by
  rcases endRead_cases mode n run s with ⟨hok, h⟩ | ⟨hok, hm, hn, h⟩ | ⟨hok, hn, h⟩
  · rw [h, endRead, if_pos hok]; rfl
  · rw [h, endRead, if_neg (by simp [hok]), if_pos ⟨hm, hn⟩]; rfl
  · rw [h, endRead, if_neg (by simp [hok]), if_neg fun hd => hd.2 (hn hd.1)]; rfl

theorem takeResponse_congr_up_to_terminator {n : Nat} {l l' : List Byte} {z : Nat} (hlen : l'.length = l.length)
    (hz : z < n / 2) (hzero : GroupZero l z) (hsame : ∀ i < 3 * (z + 1), byteAt l' i = byteAt l i) (s : State) :
    takeResponse .zero n (.bytes l') s = takeResponse .zero n (.bytes l) s := by
  by_cases hl : l.length = requestLength n
  · have hlong : 3 * (z + 1) ≤ l.length := by rw [hl, requestLength]; omega
    have hrun := runGroups_congr_up_to_terminator s.crc hlen hlong hzero hsame
    have hstate : consumeGroups .zero (loadRxq l' s) =
        loadRxq (runGroups .zero s.crc l').left (consumeGroups .zero (loadRxq l s)) := by
      rw [consumeGroups, loadRxq_crc, loadRxq_rxq, hrun]
      rfl
    rw [takeResponse, takeResponse, if_neg (by simp [hlen, hl]), if_neg (not_not_intro hl), decodeResponse,
      decodeResponse, hstate, loadRxq_crc, loadRxq_rxq, hrun]
    exact endRead_left .zero n _ _ _ _
  · rw [takeResponse, takeResponse, if_pos (hlen ▸ hl), if_pos hl]
    rfl

/-- Settles O26: the flipped group is still consumed, and fails; what follows a terminator is drained unseen. -/
theorem corruptionIsDetected : Obligations.CorruptionIsDetected := by
  refine ⟨fun mode n s l l' g m is hlow hhigh hl hlen ha hg hvalid hm hm' his hflip hsame =>
    ⟨_, exec_readInstr mode n s, ?_⟩, fun n s l l' z hhigh hlen hz hzero hsame => ?_⟩
  · have hconsumed : Consumed mode l' (n.toNat / 2) g := hg.congr fun i hi => hsame i (.inl hi)
    have hinvalid : ¬ GroupValid l' g := not_groupValid_of_flip hvalid hm hm' his hflip
    exact (readDecode_invalidGroup ⟨hlow, hhigh⟩ ha (hlen.trans hl) ⟨g, hconsumed, hinvalid⟩).1
  · obtain ⟨hlt, -⟩ := hz
    have hrange : 2 ≤ n.toNat ∧ n.toNat ≤ s.cfg.maxRxData := ⟨by omega, hhigh⟩
    have hread (a : ReadAnswer) : exec (.readz n) { s with readAnswers := a :: s.readAnswers } =
        .next (takeResponse .zero n.toNat a
          { transportRead (requestLength n.toNat) s with readAnswers := s.readAnswers }) :=
      congrArg _ (readDecode_inRange (s := { s with readAnswers := a :: s.readAnswers }) hrange)
    rw [hread, hread, takeResponse_congr_up_to_terminator hlen hlt hzero hsame]

/-! ### Corner cases of the length rules, and a read that ends early (42 R151, R152) -/

/-- Settles O27: each case is the check that R142 makes of it, in its order. -/
theorem lengthCornerCases : Obligations.LengthCornerCases := by
  refine ⟨fun mode s hfit => ⟨_, exec_readInstr mode 2 s, readDecode_calls_inRange ⟨Nat.le_refl 2, hfit⟩⟩,
    fun s l hfit ha hl h0 h1 => ?_, fun mode n s hlow hhigh => ?_, fun mode n s hn => ?_⟩
  · have hrange : 2 ≤ (5 : BitVec 8).toNat ∧ (5 : BitVec 8).toNat ≤ s.cfg.maxRxData := ⟨by decide, hfit⟩
    have hvalid (mode : ReadMode) : ∀ k, Consumed mode l 2 k → GroupValid l k
      | 0, _ => h0
      | 1, _ => h1
      | k + 2, ⟨hk, _⟩ => absurd hk (Nat.not_lt.2 (Nat.le_add_left 2 k))
    obtain ⟨hstatus, -⟩ := readDecode_oddCount hrange ha hl (hvalid .fixed) rfl rfl
    obtain ⟨hok, hlen, -⟩ := readDecode_of_valid (mode := .zero) hrange ha hl (hvalid .zero) nofun
    exact ⟨⟨_, exec_readInstr .fixed 5 s, readDecode_calls_inRange hrange, hstatus⟩,
      ⟨_, exec_readInstr .zero 5 s, readDecode_calls_inRange hrange, hok, hlen⟩⟩
  · have hrange := And.intro hlow hhigh
    refine ⟨_, exec_readInstr mode n s, readDecode_status_ne_invalidParameter hrange,
      fun ha => readDecode_wrongLength hrange ha ?_, fun l ha hl => readDecode_wrongLength hrange ha ?_,
      fun e ha => readDecode_busError hrange ha⟩
    · rw [List.length_nil, requestLength]; omega
    · rw [hl, requestLength]; omega
  · obtain ⟨hstatus, -, hcalls, -⟩ := readDecode_outOfRange (mode := mode) (n := n.toNat) (s := s) (by omega)
    exact ⟨_, exec_readInstr mode n s, hstatus, hcalls⟩

/-- Settles O28: the loop consumes the groups up to the terminator, and the bytes it leaves are drained. -/
theorem zeroTerminatedScenario : Obligations.ZeroTerminatedScenario := by
  intro n s l z hlow hhigh ha hl hlast hvalid hfirst hzero
  have hconsumed := consumed_zero_iff_le_terminator (g := n.toNat / 2) ⟨by omega, fun _ => hfirst⟩ hzero
  have hgroups : ∀ k, Consumed .zero l (n.toNat / 2) k → GroupValid l k :=
    fun k hk => hvalid k (Nat.le_of_lt_succ ((hconsumed k).1 hk))
  obtain ⟨hstatus, -, hlen, -⟩ := readDecode_of_valid (mode := .zero) ⟨hlow, hhigh⟩ ha hl hgroups nofun
  obtain ⟨hrxq, -⟩ := readDecode_rxq_calls .zero n.toNat s
  have hok := runGroups_ok_of_valid .zero s.crc hl hgroups
  have hleft := runGroups_left .zero s.crc l hok (runGroups_out_length_of_consumed .zero s.crc hl hok hconsumed)
  refine ⟨_, exec_readInstr .zero n s, hstatus, hlen _ hconsumed, hrxq, hleft, ?_⟩
  rw [hleft, List.length_drop, hl]
  omega

end Sys2Proof.Machine
end

section
/-! STATUS after each command (60_exceptions.md R170 to R174, R184): its codes, and the causes of each. -/

namespace Sys2Proof.Machine

/-- Settles O29: the codes are those the definition lists. -/
theorem statusCodes : Obligations.StatusCodes :=
  ⟨rfl, rfl, rfl, rfl, rfl, rfl, rfl, rfl, rfl, rfl⟩

/-- Settles O2: a step takes the next access, and there is none. -/
theorem idleKeepsState : Obligations.IdleKeepsState := by
  intro s hq
  rw [step, nextAccess, hq]

/-- Settles O18: the decoder's check, the sentinel, the word count and the transport are tested in this order. -/
theorem writeCheckOrder : Obligations.WriteCheckOrder := by
  refine ⟨fun c s he => runCommand_of_reserved he s, fun n s => ⟨_, exec_write_sentinel n s, rfl⟩,
    fun n op s h0 hn => ⟨_, exec_write_tooManyWords h0 hn, rfl, rfl⟩, fun n op s t h0 hn ht => ?_⟩
  rcases exec_write_next ht with ⟨hbad, -⟩ | ⟨-, -, -, rfl⟩
  · exact writeChecks_exclusive h0 hn hbad
  · exact sendFrame_status s op _

/-! ### The codes written (60 R171) -/

theorem legalStatus_readDecode (mode : ReadMode) (n : Nat) (s : State) :
    LegalStatus (readDecode mode n s).status := by
  rcases readDecode_fails_or_completes mode n s with ⟨-, hlegal, -⟩ | ⟨hok, -⟩
  · exact hlegal
  · exact .inl hok

theorem legalStatus_exec {i : Instr} {s t : State} (h : exec i s = .next t) : LegalStatus t.status := by
  rcases exec_next_cases h with ⟨b0, b1, -, rfl⟩ | ⟨b0, b1, c, -, rfl⟩ | ⟨n, op, -, -, rfl⟩ |
    ⟨n, op, -, -, -, -, rfl⟩ | ⟨mode, n, -, rfl⟩
  · exact .inl rfl
  · rw [raise_status]
    split <;> decide
  · exact legalStatus_refusal op
  · exact legalStatus_writeAnswerKind _
  · exact legalStatus_readDecode mode n.toNat s

/-- Settles O30: a reserved word writes InvalidParameter, and every way a command can end writes a listed code. -/
theorem statusAlwaysLegal : Obligations.StatusAlwaysLegal := by
  intro c s t h
  rcases runCommand_next h with ⟨i, -, he⟩ | ⟨e, -, rfl⟩
  · exact legalStatus_exec he
  · rw [raise_status]
    decide

/-! ### The causes of each failure (60 R172) -/

/-- The response shows a fault of the bus: not the bytes asked for, or a consumed group with a bad CRC. -/
def BadResponse (mode : ReadMode) (n : Nat) (l : List Byte) : Prop :=
  l.length ≠ requestLength n ∨ ∃ k, Consumed mode l (n / 2) k ∧ ¬ GroupValid l k

theorem not_badResponse_iff {mode : ReadMode} {n : Nat} {l : List Byte} :
    ¬ BadResponse mode n l ↔ l.length = requestLength n ∧ ∀ k, Consumed mode l (n / 2) k → GroupValid l k := by
  simp [BadResponse]

/-- STATUS after a read, by the first check that fails (60 R174). -/
theorem readDecode_status_cases (mode : ReadMode) (n : BitVec 8) (s : State) :
    let status := (readDecode mode n.toNat s).status
    let inRange := 2 ≤ n.toNat ∧ n.toNat ≤ s.cfg.maxRxData
    (¬ inRange ∧ status = 4) ∨
    (inRange ∧ ∃ e, readAnswer s = .error e ∧ status = statusCode (busErrorKind e)) ∨
    (inRange ∧ ∃ l, readAnswer s = .bytes l ∧
      ((BadResponse mode n.toNat l ∧ status = 8) ∨
       (¬ BadResponse mode n.toNat l ∧ (mode = .fixed ∧ n.toNat % 2 = 1) ∧ status = 1) ∨
       (¬ BadResponse mode n.toNat l ∧ ¬ (mode = .fixed ∧ n.toNat % 2 = 1) ∧ status = 0))) := by
  intro status inRange
  by_cases hrange : inRange
  · cases ha : readAnswer s with
    | error e => exact .inr (.inl ⟨hrange, e, rfl, (readDecode_busError hrange ha).1⟩)
    | bytes l =>
      refine .inr (.inr ⟨hrange, l, rfl, ?_⟩)
      by_cases hbad : BadResponse mode n.toNat l
      · refine .inl ⟨hbad, ?_⟩
        by_cases hl : l.length = requestLength n.toNat
        · exact (readDecode_invalidGroup hrange ha hl (hbad.resolve_left (not_not_intro hl))).1
        · exact (readDecode_wrongLength hrange ha hl).1
      · obtain ⟨hl, hvalid⟩ := not_badResponse_iff.1 hbad
        by_cases hcount : mode = .fixed ∧ n.toNat % 2 = 1
        · exact .inr (.inl ⟨hbad, hcount, (readDecode_oddCount hrange ha hl hvalid hcount.1 hcount.2).1⟩)
        · have heven (hm : mode = .fixed) : n.toNat % 2 = 0 := Nat.mod_two_ne_one.1 fun h => hcount ⟨hm, h⟩
          exact .inr (.inr ⟨hbad, hcount, (readDecode_of_valid hrange ha hl hvalid heven).1⟩)
  · exact .inl ⟨hrange, (readDecode_outOfRange hrange).1⟩

/-- The causes of each failure of READF and READZ. -/
theorem readDecode_status_iff (mode : ReadMode) (n : BitVec 8) (s : State) :
    let status := (readDecode mode n.toNat s).status
    let inRange := 2 ≤ n.toNat ∧ n.toNat ≤ s.cfg.maxRxData
    (status = 4 ↔ n.toNat < 2 ∨ s.cfg.maxRxData < n.toNat) ∧ status ≠ 2 ∧
    (status = 8 ↔ inRange ∧ (readAnswer s = .error .protocol ∨
      ∃ l, readAnswer s = .bytes l ∧ BadResponse mode n.toNat l)) ∧
    (status = 1 ↔ mode = .fixed ∧ inRange ∧ n.toNat % 2 = 1 ∧
      ∃ l, readAnswer s = .bytes l ∧ ¬ BadResponse mode n.toNat l) ∧
    (status = 7 ↔ inRange ∧ readAnswer s = .error .timeout) := by
  intro status inRange
  have hout : n.toNat < 2 ∨ s.cfg.maxRxData < n.toNat ↔ ¬ inRange := by
    simp only [inRange]
    omega
  rw [hout]
  rcases readDecode_status_cases mode n s with
    ⟨hr, h⟩ | ⟨hr, e, ha, h⟩ | ⟨hr, l, ha, ⟨hbad, h⟩ | ⟨hgood, hodd, h⟩ | ⟨hgood, heven, h⟩⟩
  · simp [status, inRange, h, hr]
  · cases e <;> simp [status, inRange, h, hr, ha, busErrorKind, statusCode]
  · simp [status, inRange, h, hr, ha, hbad]
  · simp [status, inRange, h, hr, ha, hgood, hodd.2, ← hodd.1]
  · simp [status, inRange, h, hr, ha, hgood, heven]

/-- The causes of each failure of WRITE, in the order of its checks (60 R173). -/
theorem exec_write_status_iff {n : BitVec 8} {op : Word} {s t : State} (h : exec (.write n op) s = .next t) :
    (t.status = 4 ↔ op ≠ 0#16 ∧ s.cfg.maxTxWords < n.toNat) ∧ (t.status = 2 ↔ op = 0#16) ∧
    (t.status = 8 ↔ op ≠ 0#16 ∧ n.toNat ≤ s.cfg.maxTxWords ∧ writeAnswer s = .error .protocol) ∧ t.status ≠ 1 ∧
    (t.status = 7 ↔ op ≠ 0#16 ∧ n.toNat ≤ s.cfg.maxTxWords ∧ writeAnswer s = .error .timeout) := by
  rcases exec_write_next h with ⟨hbad, rfl⟩ | ⟨hne, hn, -, rfl⟩
  · rw [refuseFrame_status]
    by_cases h0 : op = 0#16
    · have hk : refusal op = .unknownCommand := if_pos h0
      rw [hk]
      simp [h0, statusCode]
    · have hmany : s.cfg.maxTxWords < n.toNat := hbad.resolve_left h0
      rw [refusal_of_ne h0]
      simp [h0, hmany, statusCode]
  · have h0 : op ≠ 0#16 := hne
    rw [sendFrame_status]
    rcases writeAnswer s with _ | e
    · simp [h0, hn, writeAnswerKind, statusCode]
    · cases e <;> simp [h0, hn, writeAnswerKind, busErrorKind, statusCode]

theorem readInstr_inj {mode mode' : ReadMode} {n n' : BitVec 8} :
    readInstr mode n = readInstr mode' n' ↔ mode = mode' ∧ n = n' := by
  cases mode <;> cases mode' <;> simp [readInstr]

theorem readInstr_eq_readf_iff {mode : ReadMode} {n n' : BitVec 8} :
    readInstr mode n = .readf n' ↔ mode = .fixed ∧ n = n' :=
  readInstr_inj (mode' := .fixed)

/-- Settles O32: a CMD word is one command or reserved, so the causes are those of its own command. -/
theorem statusCauses : Obligations.StatusCauses := by
  intro c s t h
  rcases runCommand_next h with ⟨i, hd, he⟩ | ⟨e, hd, rfl⟩
  · rw [hd]
    rcases exec_next_cases he with ⟨b0, b1, rfl, rfl⟩ | ⟨b0, b1, g, rfl, -⟩ | ⟨n, op, rfl, -⟩ | ⟨n, op, rfl, -⟩ |
      ⟨mode, n, rfl, rfl⟩
    · simp [(readInstr_ne_crc8 _ _ _ _).symm]
    · rw [exec_check_status he]
      by_cases hg : g = crc8 b0 b1 <;> simp [(readInstr_ne_check _ _ _ _ _).symm, hg]
    · simpa [(readInstr_ne_write _ _ _ _).symm] using exec_write_status_iff he
    · simpa [(readInstr_ne_write _ _ _ _).symm] using exec_write_status_iff he
    · have hcauses := readDecode_status_iff mode n s
      cases mode <;> simpa [readInstr_inj, readInstr_eq_readf_iff, BadResponse, requestLength, consumed_fixed_iff,
        and_assoc] using hcauses
  · simp [hd, statusCode]

end Sys2Proof.Machine
end
